-- ==== Sys2Proof/Word.lean ====
section
/-! DEFINITION. The plain data of TLD: codes, entry words, formula tags, operand triples, the six permutations,
formulas and reduction entries. No computation stands here. -/

namespace Sys2Proof

/-- A TruthTableCode (R50): eight bits, bit 0 the least significant (R11). -/
abbrev Code := BitVec 8

/-- The 11-bit word of a reduction entry (R54). -/
abbrev EntryWord := BitVec 11

/-- The 3-bit tag of a formula node (R57). -/
abbrev Tag := BitVec 3

/-- Three values in the roles A, B, C (R91): three vectors, or the three bits of one lane. -/
structure Triple (α : Type) where
  /-- the value in the first place -/
  a : α
  /-- the value in the second place -/
  b : α
  /-- the value in the third place -/
  c : α
  deriving DecidableEq, Repr

/-- A VariablePermutation: exactly six values (R90), in the order of R13. -/
inductive Perm where
  | abc | bac | acb | cba | cab | bca
  deriving DecidableEq, Repr

/-- The abstract formulas of R56: four leaves, one node with one child, three with two. -/
inductive Formula where
  | a
  | b
  | c
  | ones
  | not (f : Formula)
  | and (f g : Formula)
  | or (f g : Formula)
  | xor (f g : Formula)
  deriving DecidableEq, Repr

/-- A ReductionEntry (R54): a representative code and the permutation that leads to it. -/
structure Entry where
  /-- the representative -/
  rep : Code
  /-- the permutation -/
  perm : Perm
  deriving DecidableEq, Repr

end Sys2Proof
end

