-- ==== Sys2Proof/Config.lean ====
section
/-! DEFINITION. What is fixed when an instance of TLD is built (R8), beside the two widths, which are the parameters
of `Machine.Block`; and the one value the spec leaves free (R149, U1). -/

namespace Sys2Proof

/-- The parameters of R8 other than `W` and `SELW`. `RT` is not among them: it follows from `PRIMARY` (R8). -/
structure Config where
  /-- `FORMULA` with its domain `PRIMARY` (R8, R87, C4): the formula of every code that has one, codes strictly
  rising. A function on `PRIMARY` by construction, so a formula outside `PRIMARY` cannot be asked for (U5).
  DESIGN CHOICE, safe (log 9). -/
  library : List (Code × Formula)
  /-- `NATIVE_LUT` (R147) -/
  nativeLut : Bool
  deriving DecidableEq, Repr

/-- `PRIMARY`, the codes that have a formula (R81). -/
def Config.primary (cfg : Config) : List Code := cfg.library.map Prod.fst

/-- `FORMULA[r]`, for `r` in `PRIMARY` (R76). -/
def Config.formula? (cfg : Config) (r : Code) : Option Formula := cfg.library.lookup r

/-- The value on port `r` in an evaluation that faults with InvalidCode: not defined by the spec (R149, U1), so a
free value of the width, the selector and the operands. DESIGN CHOICE, safe (log 4). -/
opaque Config.resultWhileErr (w : Nat) (selector a b c : Nat) : BitVec w

end Sys2Proof
end

