-- ==== Sys2Proof/Machine/Alu.lean ====
section
/-! DEFINITION. The per-lane ALU (40_alu_primitives.md), the value and the code of a formula (41_formula_library.md), the
function of a code and the reference function (30_encoding.md R50, R52; 44_dispatcher.md R136). -/

namespace Sys2Proof.Machine

/-! ## The five operations -/

/-- `AND` (R66). The bit table is PRESUMED, safe (log 11). -/
def vAnd {w : Nat} (x y : BitVec w) : BitVec w := x &&& y

/-- `OR` (R67). The bit table is PRESUMED, safe (log 11). -/
def vOr {w : Nat} (x y : BitVec w) : BitVec w := x ||| y

/-- `XOR` (R68). The bit table is PRESUMED, safe (log 11). -/
def vXor {w : Nat} (x y : BitVec w) : BitVec w := x ^^^ y

/-- `NOT` (R69), confined to the `w` lanes. The bit table is PRESUMED, safe (log 11). -/
def vNot {w : Nat} (x : BitVec w) : BitVec w := ~~~x

/-- `ONES` (R70): every lane set. -/
def vOnes (w : Nat) : BitVec w := BitVec.allOnes w

/-! ## Formulas -/

/-- `Eval(F, x, y, z)` (R78). -/
def eval {w : Nat} : Formula → Triple (BitVec w) → BitVec w
  | .a, t => t.a
  | .b, t => t.b
  | .c, t => t.c
  | .ones, _ => vOnes w
  | .not f, t => vNot (eval f t)
  | .and f g, t => vAnd (eval f t) (eval g t)
  | .or f g, t => vOr (eval f t) (eval g t)
  | .xor f g, t => vXor (eval f t) (eval g t)

/-- The three bytes whose lane `j` holds the input bits of index `j` (R79). -/
def canonicalSeed : Triple (BitVec 8) := ⟨0xF0#8, 0xCC#8, 0xAA#8⟩

/-- `tt(F)`, the code of a formula (R79). -/
def tt (f : Formula) : Code := eval f canonicalSeed

/-! ## Codes -/

/-- `idx(x, y, z) = (x << 2) | (y << 1) | z` (R11). -/
def idx (t : Triple Bool) : Nat := (t.a.toNat <<< 2) ||| (t.b.toNat <<< 1) ||| t.c.toNat

/-- The input bits of an index: `A` is bit 2, `B` bit 1, `C` bit 0 (R50). -/
def indexBits (j : Nat) : Triple Bool := ⟨j.testBit 2, j.testBit 1, j.testBit 0⟩

/-- `f_k(x, y, z) = bit(k, idx(x, y, z))` (R50). -/
def codeFn (k : Code) (t : Triple Bool) : Bool := k.getLsbD (idx t)

/-- The bits of lane `i` (R52). -/
def lane {w : Nat} (t : Triple (BitVec w)) (i : Nat) : Triple Bool := ⟨t.a.getLsbD i, t.b.getLsbD i, t.c.getLsbD i⟩

/-- The vector with bit `f i` in lane `i`, for the lanes 0 to `w - 1` (R11). -/
def ofLanes : (w : Nat) → (Nat → Bool) → BitVec w
  | 0, _ => 0#0
  | w + 1, f => BitVec.cons (f w) (ofLanes w f)

/-- The reference function `Ref(k, A, B, C)` (R136): `f_k` in every lane. -/
def ref {w : Nat} (k : Code) (t : Triple (BitVec w)) : BitVec w := ofLanes w fun i => codeFn k (lane t i)

/-! ## The closed form of the reference function -/

/-- `m_j` (R136): a one in exactly the lanes whose input index is `j`. -/
def minterm {w : Nat} (t : Triple (BitVec w)) (j : Nat) : BitVec w :=
  vAnd (vAnd (literal (j.testBit 2) t.a) (literal (j.testBit 1) t.b)) (literal (j.testBit 0) t.c)
where
  /-- the vector, or its complement where the index has a 0 -/
  literal (bit : Bool) (x : BitVec w) : BitVec w := if bit then x else vNot x

/-- The closed form of R136: the `OR` of `m_j` over the `j` with `bit(k, j) = 1`. -/
def refByMinterms {w : Nat} (k : Code) (t : Triple (BitVec w)) : BitVec w :=
  ((List.range 8).filter (k.getLsbD ·)).foldr (fun j acc => vOr (minterm t j) acc) (vNot (vOnes w))

end Sys2Proof.Machine
end

