-- ==== Sys2Proof/Machine/Operands.lean ====
section
/-! DEFINITION. The Variable-Permutation Engine (42_permutation_engine.md): the operand multiplexer, the code remap, inverses
and composition of permutations, orbits. -/

namespace Sys2Proof.Machine

/-- `PermuteOperands(A, B, C, π)` (R92 to R98, R99): the letters of the name are the operands in their new order (R91;
for `cab` and `bca` the spec's decision D5, log 10). -/
def permuteOperands {α : Type} (t : Triple α) (p : Perm) : Triple α :=
  match p with
  | .abc => ⟨t.a, t.b, t.c⟩
  | .bac => ⟨t.b, t.a, t.c⟩
  | .acb => ⟨t.a, t.c, t.b⟩
  | .cba => ⟨t.c, t.b, t.a⟩
  | .cab => ⟨t.c, t.a, t.b⟩
  | .bca => ⟨t.b, t.c, t.a⟩

/-- The inverse of a permutation (R108). -/
def inversePerm (p : Perm) : Perm :=
  match p with
  | .abc => .abc
  | .bac => .bac
  | .acb => .acb
  | .cba => .cba
  | .cab => .bca
  | .bca => .cab

/-- `π;σ`, first `p` and then `q` (the table of R109). -/
def composePerm (p q : Perm) : Perm :=
  match p, q with
  | .abc, q => q
  | p, .abc => p
  | .bac, .bac => .abc
  | .bac, .acb => .bca
  | .bac, .cba => .cab
  | .bac, .cab => .cba
  | .bac, .bca => .acb
  | .acb, .bac => .cab
  | .acb, .acb => .abc
  | .acb, .cba => .bca
  | .acb, .cab => .bac
  | .acb, .bca => .cba
  | .cba, .bac => .bca
  | .cba, .acb => .cab
  | .cba, .cba => .abc
  | .cba, .cab => .acb
  | .cba, .bca => .bac
  | .cab, .bac => .acb
  | .cab, .acb => .cba
  | .cab, .cba => .bac
  | .cab, .cab => .bca
  | .cab, .bca => .abc
  | .bca, .bac => .cba
  | .bca, .acb => .bac
  | .bca, .cba => .acb
  | .bca, .cab => .abc
  | .bca, .bca => .cab

/-- The six permutations in the order of R13. -/
def allPerms : List Perm := [.abc, .bac, .acb, .cba, .cab, .bca]

/-- The builder's fixed priority order (R122). -/
def searchOrder : List Perm := [.bac, .acb, .cba, .cab, .bca]

/-- The bit of a code that the remap copies into bit `d` (R100): the index that `π` carries to `d`. -/
def sourceBit (p : Perm) (d : Nat) : Nat := idx (permuteOperands (indexBits d) (inversePerm p))

/-- `PermuteCode(k, π)` (R100, which C1 makes the reading that holds). -/
def permuteCode (k : Code) (p : Perm) : Code := ofLanes 8 fun d => k.getLsbD (sourceBit p d)

/-- All 256 codes in ascending order. -/
def allCodes : List Code := (List.range 256).map (BitVec.ofNat 8)

/-- Whether some permutation carries the first code to the second (R113). -/
def sameOrbit (k j : Code) : Bool := allPerms.any fun p => permuteCode k p == j

/-- The orbit of a code, each member once (R113). -/
def orbit (k : Code) : List Code := (allPerms.map fun p => permuteCode k p).eraseDups

end Sys2Proof.Machine
end

