-- ==== Sys2Proof/Machine/Library.lean ====
section
/-! DEFINITION. The default Primary set (R84), the default formulas (R85, R86 and the lines "direct formula" of R300 to
R555), and the default reduction table as a ROM image (R127). -/

namespace Sys2Proof.Machine

/-- `FORMULA_DEFAULT` of the codes 0x00 to 0x0F, from R300 to R315. -/
def directFormulas0 : List Formula := [
  .not .ones,
  .not (.or .a (.or .b .c)),
  .and .c (.not (.or .a .b)),
  .not (.or .a .b),
  .and .b (.not (.or .a .c)),
  .not (.or .a .c),
  .and (.not .a) (.xor .b .c),
  .not (.or .a (.and .b .c)),
  .and (.and .b .c) (.not .a),
  .not (.or .a (.xor .b .c)),
  .and .c (.not .a),
  .and (.not .a) (.or .c (.not .b)),
  .and .b (.not .a),
  .and (.not .a) (.or .b (.not .c)),
  .and (.not .a) (.or .b .c),
  .not .a]

/-- `FORMULA_DEFAULT` of the codes 0x10 to 0x1F, from R316 to R331. -/
def directFormulas1 : List Formula := [
  .and .a (.not (.or .b .c)),
  .not (.or .b .c),
  .and (.not .b) (.xor .a .c),
  .not (.or (.and .a .c) .b),
  .and (.not .c) (.xor .a .b),
  .not (.or (.and .a .b) .c),
  .xor (.or .a (.and .b .c)) (.or .b .c),
  .not (.and (.or .a (.and .b .c)) (.or .b .c)),
  .and (.xor .a .b) (.xor .a .c),
  .not (.or (.and .a .b) (.xor .b .c)),
  .xor .a (.or (.and .a .b) .c),
  .xor (.or .a (.not .c)) (.or .b .c),
  .xor .a (.or (.and .a .c) .b),
  .xor (.or .a (.not .b)) (.or .b .c),
  .xor .a (.or .b .c),
  .not (.and .a (.or .b .c))]

/-- `FORMULA_DEFAULT` of the codes 0x20 to 0x2F, from R332 to R347. -/
def directFormulas2 : List Formula := [
  .and .a (.and .c (.not .b)),
  .not (.or .b (.xor .a .c)),
  .and .c (.not .b),
  .and (.not .b) (.or .c (.not .a)),
  .and (.xor .a .b) (.xor .b .c),
  .not (.or (.and .a .b) (.xor .a .c)),
  .xor .b (.or (.and .a .b) .c),
  .xor (.or .a .c) (.or .b (.not .c)),
  .and .c (.xor .a .b),
  .not (.or (.and .a .b) (.xor .c (.or .a .b))),
  .and .c (.not (.and .a .b)),
  .or (.and .c (.xor .a .b)) (.not (.or .a .b)),
  .and (.or .b .c) (.xor .a .b),
  .xor .a (.or .b (.not .c)),
  .xor .a (.or .b (.xor .a .c)),
  .not (.and .a (.or .b (.not .c)))]

/-- `FORMULA_DEFAULT` of the codes 0x30 to 0x3F, from R348 to R363. -/
def directFormulas3 : List Formula := [
  .and .a (.not .b),
  .and (.not .b) (.or .a (.not .c)),
  .and (.not .b) (.or .a .c),
  .not .b,
  .xor .b (.or .a (.and .b .c)),
  .xor (.or .a .c) (.or .b (.not .a)),
  .xor .b (.or .a .c),
  .not (.and .b (.or .a .c)),
  .and (.or .a .c) (.xor .a .b),
  .xor .b (.or .a (.not .c)),
  .xor (.and .a .b) (.or .a .c),
  .not (.and .b (.or .a (.not .c))),
  .xor .a .b,
  .or (.not (.or .a .c)) (.xor .a .b),
  .or (.and .c (.not .a)) (.xor .a .b),
  .not (.and .a .b)]

/-- `FORMULA_DEFAULT` of the codes 0x40 to 0x4F, from R364 to R379. -/
def directFormulas4 : List Formula := [
  .and .a (.and .b (.not .c)),
  .not (.or .c (.xor .a .b)),
  .and (.xor .a .c) (.xor .b .c),
  .not (.or (.and .a .c) (.xor .a .b)),
  .and .b (.not .c),
  .and (.not .c) (.or .b (.not .a)),
  .xor .c (.or (.and .a .c) .b),
  .xor (.or .a .b) (.or .c (.not .b)),
  .and .b (.xor .a .c),
  .not (.or (.and .a .c) (.xor .b (.or .a .c))),
  .and (.or .b .c) (.xor .a .c),
  .xor .a (.or .c (.not .b)),
  .and .b (.not (.and .a .c)),
  .or (.and .b (.xor .a .c)) (.not (.or .a .c)),
  .xor .a (.or .c (.xor .a .b)),
  .not (.and .a (.or .c (.not .b)))]

/-- `FORMULA_DEFAULT` of the codes 0x50 to 0x5F, from R380 to R395. -/
def directFormulas5 : List Formula := [
  .and .a (.not .c),
  .and (.not .c) (.or .a (.not .b)),
  .xor .c (.or .a (.and .b .c)),
  .xor (.or .a .b) (.or .c (.not .a)),
  .and (.not .c) (.or .a .b),
  .not .c,
  .xor .c (.or .a .b),
  .not (.and .c (.or .a .b)),
  .and (.or .a .b) (.xor .a .c),
  .xor .c (.or .a (.not .b)),
  .xor .a .c,
  .or (.not (.or .a .b)) (.xor .a .c),
  .xor (.and .a .c) (.or .a .b),
  .not (.and .c (.or .a (.not .b))),
  .or (.and .b (.not .a)) (.xor .a .c),
  .not (.and .a .c)]

/-- `FORMULA_DEFAULT` of the codes 0x60 to 0x6F, from R396 to R411. -/
def directFormulas6 : List Formula := [
  .and .a (.xor .b .c),
  .not (.or (.and .b .c) (.xor .a (.or .b .c))),
  .and (.or .a .c) (.xor .b .c),
  .xor .b (.or .c (.not .a)),
  .and (.or .a .b) (.xor .b .c),
  .xor .c (.or .b (.not .a)),
  .xor .b .c,
  .or (.not (.or .a .b)) (.xor .b .c),
  .and (.or .a .b) (.xor (.and .a .b) .c),
  .not (.xor .a (.xor .b .c)),
  .xor (.and .a .b) .c,
  .or (.not (.or .a .b)) (.xor (.and .a .b) .c),
  .xor (.and .a .c) .b,
  .or (.not (.or .a .c)) (.xor (.and .a .c) .b),
  .or (.and .b (.not .a)) (.xor .b .c),
  .or (.not .a) (.xor .b .c)]

/-- `FORMULA_DEFAULT` of the codes 0x70 to 0x7F, from R412 to R427. -/
def directFormulas7 : List Formula := [
  .and .a (.not (.and .b .c)),
  .or (.and .a (.xor .b .c)) (.not (.or .b .c)),
  .xor (.and .b .c) (.or .a .c),
  .not (.and .b (.or .c (.not .a))),
  .xor (.and .b .c) (.or .a .b),
  .not (.and .c (.or .b (.not .a))),
  .or (.and .a (.not .b)) (.xor .b .c),
  .not (.and .b .c),
  .xor .a (.and .b .c),
  .or (.not (.or .b .c)) (.xor .a (.and .b .c)),
  .or (.and .a (.not .b)) (.xor .a .c),
  .or (.not .b) (.xor .a .c),
  .or (.and .a (.not .c)) (.xor .a .b),
  .or (.not .c) (.xor .a .b),
  .or (.xor .a .b) (.xor .a .c),
  .not (.and .a (.and .b .c))]

/-- `FORMULA_DEFAULT` of the codes 0x80 to 0x8F, from R428 to R443. -/
def directFormulas8 : List Formula := [
  .and .a (.and .b .c),
  .not (.or (.xor .a .b) (.xor .a .c)),
  .and .c (.not (.xor .a .b)),
  .and (.not (.xor .a .b)) (.or .c (.not .a)),
  .and .b (.not (.xor .a .c)),
  .and (.not (.xor .a .c)) (.or .b (.not .a)),
  .and (.or .b .c) (.xor .a (.xor .b .c)),
  .not (.xor .a (.and .b .c)),
  .and .b .c,
  .and (.not (.xor .b .c)) (.or .b (.not .a)),
  .and .c (.or .b (.not .a)),
  .or (.and .b .c) (.not (.or .a .b)),
  .and .b (.or .c (.not .a)),
  .or (.and .b .c) (.not (.or .a .c)),
  .xor .a (.or (.xor .a .b) (.xor .a .c)),
  .or (.and .b .c) (.not .a)]

/-- `FORMULA_DEFAULT` of the codes 0x90 to 0x9F, from R444 to R459. -/
def directFormulas9 : List Formula := [
  .and .a (.not (.xor .b .c)),
  .and (.not (.xor .b .c)) (.or .a (.not .b)),
  .and (.or .a .c) (.xor .a (.xor .b .c)),
  .not (.xor (.and .a .c) .b),
  .and (.or .a .b) (.xor .a (.xor .b .c)),
  .not (.xor (.and .a .b) .c),
  .xor .a (.xor .b .c),
  .or (.not (.or .a .b)) (.xor .a (.xor .b .c)),
  .and (.not (.xor .b .c)) (.or .a .b),
  .not (.xor .b .c),
  .xor (.and .a (.not .b)) .c,
  .not (.and (.or .a .b) (.xor .b .c)),
  .xor (.and .a (.not .c)) .b,
  .not (.and (.or .a .c) (.xor .b .c)),
  .or (.and .b .c) (.xor .a (.or .b .c)),
  .not (.and .a (.xor .b .c))]

/-- `FORMULA_DEFAULT` of the codes 0xA0 to 0xAF, from R460 to R475. -/
def directFormulasA : List Formula := [
  .and .a .c,
  .and (.not (.xor .a .c)) (.or .a (.not .b)),
  .and .c (.or .a (.not .b)),
  .or (.and .a .c) (.not (.or .a .b)),
  .and (.not (.xor .a .c)) (.or .a .b),
  .not (.xor .a .c),
  .xor (.and .b (.not .a)) .c,
  .not (.and (.or .a .b) (.xor .a .c)),
  .and .c (.or .a .b),
  .not (.xor .c (.or .a .b)),
  .c,
  .or .c (.not (.or .a .b)),
  .xor (.and .a (.xor .b .c)) .b,
  .not (.xor .c (.or .a (.and .b .c))),
  .or (.and .b (.not .a)) .c,
  .or .c (.not .a)]

/-- `FORMULA_DEFAULT` of the codes 0xB0 to 0xBF, from R476 to R491. -/
def directFormulasB : List Formula := [
  .and .a (.or .c (.not .b)),
  .or (.and .a .c) (.not (.or .b .c)),
  .xor (.and .b (.xor .a .c)) (.or .a .c),
  .or (.and .a .c) (.not .b),
  .xor .a (.and .b (.not .c)),
  .not (.and (.or .b .c) (.xor .a .c)),
  .or (.and .a .c) (.xor .b (.or .a .c)),
  .not (.and .b (.xor .a .c)),
  .xor .a (.and .b (.xor .a .c)),
  .not (.xor .c (.or (.and .a .c) .b)),
  .or (.and .a (.not .b)) .c,
  .or .c (.not .b),
  .or (.and .a .c) (.xor .a .b),
  .or (.not (.xor .a .c)) (.xor .a .b),
  .or .c (.xor .a .b),
  .or .c (.not (.and .a .b))]

/-- `FORMULA_DEFAULT` of the codes 0xC0 to 0xCF, from R492 to R507. -/
def directFormulasC : List Formula := [
  .and .a .b,
  .and (.not (.xor .a .b)) (.or .a (.not .c)),
  .and (.not (.xor .a .b)) (.or .a .c),
  .not (.xor .a .b),
  .and .b (.or .a (.not .c)),
  .or (.and .a .b) (.not (.or .a .c)),
  .xor (.and .c (.not .a)) .b,
  .not (.and (.or .a .c) (.xor .a .b)),
  .and .b (.or .a .c),
  .not (.xor .b (.or .a .c)),
  .xor (.and .a (.xor .b .c)) .c,
  .not (.xor .b (.or .a (.and .b .c))),
  .b,
  .or .b (.not (.or .a .c)),
  .or (.and .c (.not .a)) .b,
  .or .b (.not .a)]

/-- `FORMULA_DEFAULT` of the codes 0xD0 to 0xDF, from R508 to R523. -/
def directFormulasD : List Formula := [
  .and .a (.or .b (.not .c)),
  .or (.and .a .b) (.not (.or .b .c)),
  .xor .a (.and .c (.not .b)),
  .not (.and (.or .b .c) (.xor .a .b)),
  .xor (.and .c (.xor .a .b)) (.or .a .b),
  .or (.and .a .b) (.not .c),
  .or (.and .a .b) (.xor .c (.or .a .b)),
  .not (.and .c (.xor .a .b)),
  .xor .a (.and .c (.xor .a .b)),
  .not (.xor .b (.or (.and .a .b) .c)),
  .or (.and .a .b) (.xor .a .c),
  .or (.not (.xor .a .b)) (.xor .a .c),
  .or (.and .a (.not .c)) .b,
  .or .b (.not .c),
  .or .b (.xor .a .c),
  .or .b (.not (.and .a .c))]

/-- `FORMULA_DEFAULT` of the codes 0xE0 to 0xEF, from R524 to R539. -/
def directFormulasE : List Formula := [
  .and .a (.or .b .c),
  .not (.xor .a (.or .b .c)),
  .xor (.and .b (.xor .a .c)) .c,
  .not (.xor .a (.or (.and .a .c) .b)),
  .xor (.and .c (.xor .a .b)) .b,
  .not (.xor .a (.or (.and .a .b) .c)),
  .or (.and .a .b) (.xor .b .c),
  .or (.not (.xor .a .b)) (.xor .b .c),
  .and (.or .a (.and .b .c)) (.or .b .c),
  .not (.xor (.or .a (.and .b .c)) (.or .b .c)),
  .or (.and .a .b) .c,
  .or .c (.not (.xor .a .b)),
  .or (.and .a .c) .b,
  .or .b (.not (.xor .a .c)),
  .or .b .c,
  .or .b (.or .c (.not .a))]

/-- `FORMULA_DEFAULT` of the codes 0xF0 to 0xFF, from R540 to R555. -/
def directFormulasF : List Formula := [
  .a,
  .or .a (.not (.or .b .c)),
  .or .a (.and .c (.not .b)),
  .or .a (.not .b),
  .or .a (.and .b (.not .c)),
  .or .a (.not .c),
  .or .a (.xor .b .c),
  .or .a (.not (.and .b .c)),
  .or .a (.and .b .c),
  .or .a (.not (.xor .b .c)),
  .or .a .c,
  .or .a (.or .c (.not .b)),
  .or .a .b,
  .or .a (.or .b (.not .c)),
  .or .a (.or .b .c),
  .ones]

/-- `FORMULA_DEFAULT` of all 256 codes, code by code (R86). -/
def directFormulas : List Formula :=
  directFormulas0 ++ directFormulas1 ++ directFormulas2 ++ directFormulas3 ++
  directFormulas4 ++ directFormulas5 ++ directFormulas6 ++ directFormulas7 ++
  directFormulas8 ++ directFormulas9 ++ directFormulasA ++ directFormulasB ++
  directFormulasC ++ directFormulasD ++ directFormulasE ++ directFormulasF

/-- `FORMULA_DEFAULT[k]` (R86). The list has 256 entries, so the default never stands for a code. -/
def directFormula (k : Code) : Formula := directFormulas.getD k.toNat .a

/-- `PRIMARY_DEFAULT` (R84): the 80 orbit minima, as the spec lists them. -/
def primaryDefault : List Code := [
  0x00#8, 0x01#8, 0x02#8, 0x03#8, 0x06#8, 0x07#8, 0x08#8, 0x09#8, 0x0A#8, 0x0B#8, 0x0E#8, 0x0F#8, 0x16#8, 0x17#8, 0x18#8, 0x19#8,
  0x1A#8, 0x1B#8, 0x1E#8, 0x1F#8, 0x28#8, 0x29#8, 0x2A#8, 0x2B#8, 0x2C#8, 0x2D#8, 0x2E#8, 0x2F#8, 0x3C#8, 0x3D#8, 0x3E#8, 0x3F#8,
  0x68#8, 0x69#8, 0x6A#8, 0x6B#8, 0x6E#8, 0x6F#8, 0x7E#8, 0x7F#8, 0x80#8, 0x81#8, 0x82#8, 0x83#8, 0x86#8, 0x87#8, 0x88#8, 0x89#8,
  0x8A#8, 0x8B#8, 0x8E#8, 0x8F#8, 0x96#8, 0x97#8, 0x98#8, 0x99#8, 0x9A#8, 0x9B#8, 0x9E#8, 0x9F#8, 0xA8#8, 0xA9#8, 0xAA#8, 0xAB#8,
  0xAC#8, 0xAD#8, 0xAE#8, 0xAF#8, 0xBC#8, 0xBD#8, 0xBE#8, 0xBF#8, 0xE8#8, 0xE9#8, 0xEA#8, 0xEB#8, 0xEE#8, 0xEF#8, 0xFE#8, 0xFF#8]

/-- A library on a set of codes, with the default formulas (R86). -/
def libraryOn (codes : List Code) : List (Code × Formula) := codes.map fun k => (k, directFormula k)

/-- The default configuration (R8). -/
def defaultConfig : Config := ⟨libraryOn primaryDefault, false⟩

/-- The configuration with `PRIMARY` all 256 codes (R86, R130). -/
def fullConfig : Config := ⟨libraryOn allCodes, false⟩

/-- ROM words 0x00 to 0x0F (R127). -/
def romRow0 : List EntryWord := [
  0x000#11, 0x001#11, 0x002#11, 0x003#11, 0x202#11, 0x203#11, 0x006#11, 0x007#11,
  0x008#11, 0x009#11, 0x00A#11, 0x00B#11, 0x20A#11, 0x20B#11, 0x00E#11, 0x00F#11]

/-- ROM words 0x10 to 0x1F (R127). -/
def romRow1 : List EntryWord := [
  0x302#11, 0x303#11, 0x106#11, 0x107#11, 0x306#11, 0x307#11, 0x016#11, 0x017#11,
  0x018#11, 0x019#11, 0x01A#11, 0x01B#11, 0x21A#11, 0x21B#11, 0x01E#11, 0x01F#11]

/-- ROM words 0x20 to 0x2F (R127). -/
def romRow2 : List EntryWord := [
  0x108#11, 0x109#11, 0x10A#11, 0x10B#11, 0x118#11, 0x119#11, 0x11A#11, 0x11B#11,
  0x028#11, 0x029#11, 0x02A#11, 0x02B#11, 0x02C#11, 0x02D#11, 0x02E#11, 0x02F#11]

/-- ROM words 0x30 to 0x3F (R127). -/
def romRow3 : List EntryWord := [
  0x50A#11, 0x50B#11, 0x10E#11, 0x10F#11, 0x51A#11, 0x51B#11, 0x11E#11, 0x11F#11,
  0x12C#11, 0x12D#11, 0x12E#11, 0x12F#11, 0x03C#11, 0x03D#11, 0x03E#11, 0x03F#11]

/-- ROM words 0x40 to 0x4F (R127). -/
def romRow4 : List EntryWord := [
  0x308#11, 0x309#11, 0x318#11, 0x319#11, 0x40A#11, 0x40B#11, 0x41A#11, 0x41B#11,
  0x228#11, 0x229#11, 0x22C#11, 0x22D#11, 0x22A#11, 0x22B#11, 0x22E#11, 0x22F#11]

/-- ROM words 0x50 to 0x5F (R127). -/
def romRow5 : List EntryWord := [
  0x30A#11, 0x30B#11, 0x31A#11, 0x31B#11, 0x30E#11, 0x30F#11, 0x31E#11, 0x31F#11,
  0x42C#11, 0x42D#11, 0x23C#11, 0x23D#11, 0x42E#11, 0x42F#11, 0x23E#11, 0x23F#11]

/-- ROM words 0x60 to 0x6F (R127). -/
def romRow6 : List EntryWord := [
  0x328#11, 0x329#11, 0x52C#11, 0x52D#11, 0x32C#11, 0x32D#11, 0x33C#11, 0x33D#11,
  0x068#11, 0x069#11, 0x06A#11, 0x06B#11, 0x26A#11, 0x26B#11, 0x06E#11, 0x06F#11]

/-- ROM words 0x70 to 0x7F (R127). -/
def romRow7 : List EntryWord := [
  0x32A#11, 0x32B#11, 0x52E#11, 0x52F#11, 0x32E#11, 0x32F#11, 0x33E#11, 0x33F#11,
  0x36A#11, 0x36B#11, 0x16E#11, 0x16F#11, 0x36E#11, 0x36F#11, 0x07E#11, 0x07F#11]

/-- ROM words 0x80 to 0x8F (R127). -/
def romRow8 : List EntryWord := [
  0x080#11, 0x081#11, 0x082#11, 0x083#11, 0x282#11, 0x283#11, 0x086#11, 0x087#11,
  0x088#11, 0x089#11, 0x08A#11, 0x08B#11, 0x28A#11, 0x28B#11, 0x08E#11, 0x08F#11]

/-- ROM words 0x90 to 0x9F (R127). -/
def romRow9 : List EntryWord := [
  0x382#11, 0x383#11, 0x186#11, 0x187#11, 0x386#11, 0x387#11, 0x096#11, 0x097#11,
  0x098#11, 0x099#11, 0x09A#11, 0x09B#11, 0x29A#11, 0x29B#11, 0x09E#11, 0x09F#11]

/-- ROM words 0xA0 to 0xAF (R127). -/
def romRowA : List EntryWord := [
  0x188#11, 0x189#11, 0x18A#11, 0x18B#11, 0x198#11, 0x199#11, 0x19A#11, 0x19B#11,
  0x0A8#11, 0x0A9#11, 0x0AA#11, 0x0AB#11, 0x0AC#11, 0x0AD#11, 0x0AE#11, 0x0AF#11]

/-- ROM words 0xB0 to 0xBF (R127). -/
def romRowB : List EntryWord := [
  0x58A#11, 0x58B#11, 0x18E#11, 0x18F#11, 0x59A#11, 0x59B#11, 0x19E#11, 0x19F#11,
  0x1AC#11, 0x1AD#11, 0x1AE#11, 0x1AF#11, 0x0BC#11, 0x0BD#11, 0x0BE#11, 0x0BF#11]

/-- ROM words 0xC0 to 0xCF (R127). -/
def romRowC : List EntryWord := [
  0x388#11, 0x389#11, 0x398#11, 0x399#11, 0x48A#11, 0x48B#11, 0x49A#11, 0x49B#11,
  0x2A8#11, 0x2A9#11, 0x2AC#11, 0x2AD#11, 0x2AA#11, 0x2AB#11, 0x2AE#11, 0x2AF#11]

/-- ROM words 0xD0 to 0xDF (R127). -/
def romRowD : List EntryWord := [
  0x38A#11, 0x38B#11, 0x39A#11, 0x39B#11, 0x38E#11, 0x38F#11, 0x39E#11, 0x39F#11,
  0x4AC#11, 0x4AD#11, 0x2BC#11, 0x2BD#11, 0x4AE#11, 0x4AF#11, 0x2BE#11, 0x2BF#11]

/-- ROM words 0xE0 to 0xEF (R127). -/
def romRowE : List EntryWord := [
  0x3A8#11, 0x3A9#11, 0x5AC#11, 0x5AD#11, 0x3AC#11, 0x3AD#11, 0x3BC#11, 0x3BD#11,
  0x0E8#11, 0x0E9#11, 0x0EA#11, 0x0EB#11, 0x2EA#11, 0x2EB#11, 0x0EE#11, 0x0EF#11]

/-- ROM words 0xF0 to 0xFF (R127). -/
def romRowF : List EntryWord := [
  0x3AA#11, 0x3AB#11, 0x5AE#11, 0x5AF#11, 0x3AE#11, 0x3AF#11, 0x3BE#11, 0x3BF#11,
  0x3EA#11, 0x3EB#11, 0x1EE#11, 0x1EF#11, 0x3EE#11, 0x3EF#11, 0x0FE#11, 0x0FF#11]

/-- The ROM image of `RT_DEFAULT`, word by word (R127). -/
def romDefault : List EntryWord :=
  romRow0 ++ romRow1 ++ romRow2 ++ romRow3 ++
  romRow4 ++ romRow5 ++ romRow6 ++ romRow7 ++
  romRow8 ++ romRow9 ++ romRowA ++ romRowB ++
  romRowC ++ romRowD ++ romRowE ++ romRowF

end Sys2Proof.Machine
end

