-- ==== Sys2Proof/Syntax.lean ====
section
/-! DEFINITION. The instructions: one constructor per row of spec/opcode_table.json. The rows with fields stand first,
because Lean can only compile the first 245 constructors of a type with fields. A row of format
CMD has no operand field (R48), a row of format RENTRY has the field `rep` (R54), a row of format FNODE is the root node
of a formula and carries its children (R57). -/

namespace Sys2Proof

/-- The 270 rows of the opcode table (R61). -/
inductive Instr where
  /- RENTRY.abc to RENTRY.bca (R93 to R98) -/
  | rentryAbc (rep : Code)
  | rentryBac (rep : Code)
  | rentryAcb (rep : Code)
  | rentryCba (rep : Code)
  | rentryCab (rep : Code)
  | rentryBca (rep : Code)
  /- FNODE.A to FNODE.XOR (R78, R70, R69, R66, R67, R68) -/
  | fnodeA | fnodeB | fnodeC | fnodeOnes
  | fnodeNot (f : Formula)
  | fnodeAnd (f g : Formula)
  | fnodeOr (f g : Formula)
  | fnodeXor (f g : Formula)
  /- TLOG.00 to TLOG.0F (R300 to R315) -/
  | tlog00 | tlog01 | tlog02 | tlog03 | tlog04 | tlog05 | tlog06 | tlog07
  | tlog08 | tlog09 | tlog0A | tlog0B | tlog0C | tlog0D | tlog0E | tlog0F
  /- TLOG.10 to TLOG.1F (R316 to R331) -/
  | tlog10 | tlog11 | tlog12 | tlog13 | tlog14 | tlog15 | tlog16 | tlog17
  | tlog18 | tlog19 | tlog1A | tlog1B | tlog1C | tlog1D | tlog1E | tlog1F
  /- TLOG.20 to TLOG.2F (R332 to R347) -/
  | tlog20 | tlog21 | tlog22 | tlog23 | tlog24 | tlog25 | tlog26 | tlog27
  | tlog28 | tlog29 | tlog2A | tlog2B | tlog2C | tlog2D | tlog2E | tlog2F
  /- TLOG.30 to TLOG.3F (R348 to R363) -/
  | tlog30 | tlog31 | tlog32 | tlog33 | tlog34 | tlog35 | tlog36 | tlog37
  | tlog38 | tlog39 | tlog3A | tlog3B | tlog3C | tlog3D | tlog3E | tlog3F
  /- TLOG.40 to TLOG.4F (R364 to R379) -/
  | tlog40 | tlog41 | tlog42 | tlog43 | tlog44 | tlog45 | tlog46 | tlog47
  | tlog48 | tlog49 | tlog4A | tlog4B | tlog4C | tlog4D | tlog4E | tlog4F
  /- TLOG.50 to TLOG.5F (R380 to R395) -/
  | tlog50 | tlog51 | tlog52 | tlog53 | tlog54 | tlog55 | tlog56 | tlog57
  | tlog58 | tlog59 | tlog5A | tlog5B | tlog5C | tlog5D | tlog5E | tlog5F
  /- TLOG.60 to TLOG.6F (R396 to R411) -/
  | tlog60 | tlog61 | tlog62 | tlog63 | tlog64 | tlog65 | tlog66 | tlog67
  | tlog68 | tlog69 | tlog6A | tlog6B | tlog6C | tlog6D | tlog6E | tlog6F
  /- TLOG.70 to TLOG.7F (R412 to R427) -/
  | tlog70 | tlog71 | tlog72 | tlog73 | tlog74 | tlog75 | tlog76 | tlog77
  | tlog78 | tlog79 | tlog7A | tlog7B | tlog7C | tlog7D | tlog7E | tlog7F
  /- TLOG.80 to TLOG.8F (R428 to R443) -/
  | tlog80 | tlog81 | tlog82 | tlog83 | tlog84 | tlog85 | tlog86 | tlog87
  | tlog88 | tlog89 | tlog8A | tlog8B | tlog8C | tlog8D | tlog8E | tlog8F
  /- TLOG.90 to TLOG.9F (R444 to R459) -/
  | tlog90 | tlog91 | tlog92 | tlog93 | tlog94 | tlog95 | tlog96 | tlog97
  | tlog98 | tlog99 | tlog9A | tlog9B | tlog9C | tlog9D | tlog9E | tlog9F
  /- TLOG.A0 to TLOG.AF (R460 to R475) -/
  | tlogA0 | tlogA1 | tlogA2 | tlogA3 | tlogA4 | tlogA5 | tlogA6 | tlogA7
  | tlogA8 | tlogA9 | tlogAA | tlogAB | tlogAC | tlogAD | tlogAE | tlogAF
  /- TLOG.B0 to TLOG.BF (R476 to R491) -/
  | tlogB0 | tlogB1 | tlogB2 | tlogB3 | tlogB4 | tlogB5 | tlogB6 | tlogB7
  | tlogB8 | tlogB9 | tlogBA | tlogBB | tlogBC | tlogBD | tlogBE | tlogBF
  /- TLOG.C0 to TLOG.CF (R492 to R507) -/
  | tlogC0 | tlogC1 | tlogC2 | tlogC3 | tlogC4 | tlogC5 | tlogC6 | tlogC7
  | tlogC8 | tlogC9 | tlogCA | tlogCB | tlogCC | tlogCD | tlogCE | tlogCF
  /- TLOG.D0 to TLOG.DF (R508 to R523) -/
  | tlogD0 | tlogD1 | tlogD2 | tlogD3 | tlogD4 | tlogD5 | tlogD6 | tlogD7
  | tlogD8 | tlogD9 | tlogDA | tlogDB | tlogDC | tlogDD | tlogDE | tlogDF
  /- TLOG.E0 to TLOG.EF (R524 to R539) -/
  | tlogE0 | tlogE1 | tlogE2 | tlogE3 | tlogE4 | tlogE5 | tlogE6 | tlogE7
  | tlogE8 | tlogE9 | tlogEA | tlogEB | tlogEC | tlogED | tlogEE | tlogEF
  /- TLOG.F0 to TLOG.FF (R540 to R555) -/
  | tlogF0 | tlogF1 | tlogF2 | tlogF3 | tlogF4 | tlogF5 | tlogF6 | tlogF7
  | tlogF8 | tlogF9 | tlogFA | tlogFB | tlogFC | tlogFD | tlogFE | tlogFF
  deriving DecidableEq, Repr

end Sys2Proof
end

