-- ==== Sys2Proof/Decode.lean ====
section
/-! DEFINITION. Decoding and, after it, encoding, for the three formats of 30_encoding.md: the selector (CMD), the
11-bit entry word (RENTRY) and the prefix tag string of a formula (FNODE). Only the selector is visible at a port (R61). -/

namespace Sys2Proof

/-- Something to decode. The format is not in the bits: it is the place the bits stand in (R48, R54, R57). -/
inductive Encoded where
  /-- format CMD: the selector as a natural number, `zext(sel)` (R49) -/
  | cmd (selector : Nat)
  /-- format RENTRY: one word of the reduction table (R54) -/
  | rentry (word : EntryWord)
  /-- format FNODE: the tags of a formula in prefix order (R57) -/
  | fnode (tags : List Tag)
  deriving DecidableEq, Repr

/-- Why something does not decode. -/
inductive DecodeError where
  /-- a selector above 255 (R49) -/
  | invalidCode (selector : Nat)
  /-- an entry word with `perm` 6 or 7 (R58, U7) -/
  | reservedPermutation (number : Nat)
  /-- a tag string that ends before its formula does (R57) -/
  | truncatedFormula
  deriving DecidableEq, Repr

/-! ## Selectors -/

/-- The instructions of the selectors 0x00 to 0x0F (R61). -/
def tlogRow0 : List Instr := [
  .tlog00, .tlog01, .tlog02, .tlog03, .tlog04, .tlog05, .tlog06, .tlog07,
  .tlog08, .tlog09, .tlog0A, .tlog0B, .tlog0C, .tlog0D, .tlog0E, .tlog0F]

/-- The instructions of the selectors 0x10 to 0x1F (R61). -/
def tlogRow1 : List Instr := [
  .tlog10, .tlog11, .tlog12, .tlog13, .tlog14, .tlog15, .tlog16, .tlog17,
  .tlog18, .tlog19, .tlog1A, .tlog1B, .tlog1C, .tlog1D, .tlog1E, .tlog1F]

/-- The instructions of the selectors 0x20 to 0x2F (R61). -/
def tlogRow2 : List Instr := [
  .tlog20, .tlog21, .tlog22, .tlog23, .tlog24, .tlog25, .tlog26, .tlog27,
  .tlog28, .tlog29, .tlog2A, .tlog2B, .tlog2C, .tlog2D, .tlog2E, .tlog2F]

/-- The instructions of the selectors 0x30 to 0x3F (R61). -/
def tlogRow3 : List Instr := [
  .tlog30, .tlog31, .tlog32, .tlog33, .tlog34, .tlog35, .tlog36, .tlog37,
  .tlog38, .tlog39, .tlog3A, .tlog3B, .tlog3C, .tlog3D, .tlog3E, .tlog3F]

/-- The instructions of the selectors 0x40 to 0x4F (R61). -/
def tlogRow4 : List Instr := [
  .tlog40, .tlog41, .tlog42, .tlog43, .tlog44, .tlog45, .tlog46, .tlog47,
  .tlog48, .tlog49, .tlog4A, .tlog4B, .tlog4C, .tlog4D, .tlog4E, .tlog4F]

/-- The instructions of the selectors 0x50 to 0x5F (R61). -/
def tlogRow5 : List Instr := [
  .tlog50, .tlog51, .tlog52, .tlog53, .tlog54, .tlog55, .tlog56, .tlog57,
  .tlog58, .tlog59, .tlog5A, .tlog5B, .tlog5C, .tlog5D, .tlog5E, .tlog5F]

/-- The instructions of the selectors 0x60 to 0x6F (R61). -/
def tlogRow6 : List Instr := [
  .tlog60, .tlog61, .tlog62, .tlog63, .tlog64, .tlog65, .tlog66, .tlog67,
  .tlog68, .tlog69, .tlog6A, .tlog6B, .tlog6C, .tlog6D, .tlog6E, .tlog6F]

/-- The instructions of the selectors 0x70 to 0x7F (R61). -/
def tlogRow7 : List Instr := [
  .tlog70, .tlog71, .tlog72, .tlog73, .tlog74, .tlog75, .tlog76, .tlog77,
  .tlog78, .tlog79, .tlog7A, .tlog7B, .tlog7C, .tlog7D, .tlog7E, .tlog7F]

/-- The instructions of the selectors 0x80 to 0x8F (R61). -/
def tlogRow8 : List Instr := [
  .tlog80, .tlog81, .tlog82, .tlog83, .tlog84, .tlog85, .tlog86, .tlog87,
  .tlog88, .tlog89, .tlog8A, .tlog8B, .tlog8C, .tlog8D, .tlog8E, .tlog8F]

/-- The instructions of the selectors 0x90 to 0x9F (R61). -/
def tlogRow9 : List Instr := [
  .tlog90, .tlog91, .tlog92, .tlog93, .tlog94, .tlog95, .tlog96, .tlog97,
  .tlog98, .tlog99, .tlog9A, .tlog9B, .tlog9C, .tlog9D, .tlog9E, .tlog9F]

/-- The instructions of the selectors 0xA0 to 0xAF (R61). -/
def tlogRowA : List Instr := [
  .tlogA0, .tlogA1, .tlogA2, .tlogA3, .tlogA4, .tlogA5, .tlogA6, .tlogA7,
  .tlogA8, .tlogA9, .tlogAA, .tlogAB, .tlogAC, .tlogAD, .tlogAE, .tlogAF]

/-- The instructions of the selectors 0xB0 to 0xBF (R61). -/
def tlogRowB : List Instr := [
  .tlogB0, .tlogB1, .tlogB2, .tlogB3, .tlogB4, .tlogB5, .tlogB6, .tlogB7,
  .tlogB8, .tlogB9, .tlogBA, .tlogBB, .tlogBC, .tlogBD, .tlogBE, .tlogBF]

/-- The instructions of the selectors 0xC0 to 0xCF (R61). -/
def tlogRowC : List Instr := [
  .tlogC0, .tlogC1, .tlogC2, .tlogC3, .tlogC4, .tlogC5, .tlogC6, .tlogC7,
  .tlogC8, .tlogC9, .tlogCA, .tlogCB, .tlogCC, .tlogCD, .tlogCE, .tlogCF]

/-- The instructions of the selectors 0xD0 to 0xDF (R61). -/
def tlogRowD : List Instr := [
  .tlogD0, .tlogD1, .tlogD2, .tlogD3, .tlogD4, .tlogD5, .tlogD6, .tlogD7,
  .tlogD8, .tlogD9, .tlogDA, .tlogDB, .tlogDC, .tlogDD, .tlogDE, .tlogDF]

/-- The instructions of the selectors 0xE0 to 0xEF (R61). -/
def tlogRowE : List Instr := [
  .tlogE0, .tlogE1, .tlogE2, .tlogE3, .tlogE4, .tlogE5, .tlogE6, .tlogE7,
  .tlogE8, .tlogE9, .tlogEA, .tlogEB, .tlogEC, .tlogED, .tlogEE, .tlogEF]

/-- The instructions of the selectors 0xF0 to 0xFF (R61). -/
def tlogRowF : List Instr := [
  .tlogF0, .tlogF1, .tlogF2, .tlogF3, .tlogF4, .tlogF5, .tlogF6, .tlogF7,
  .tlogF8, .tlogF9, .tlogFA, .tlogFB, .tlogFC, .tlogFD, .tlogFE, .tlogFF]

/-- The instructions of all selectors, selector by selector: the byte is the function (R61). -/
def tlogRows : List Instr :=
  tlogRow0 ++ tlogRow1 ++ tlogRow2 ++ tlogRow3 ++
  tlogRow4 ++ tlogRow5 ++ tlogRow6 ++ tlogRow7 ++
  tlogRow8 ++ tlogRow9 ++ tlogRowA ++ tlogRowB ++
  tlogRowC ++ tlogRowD ++ tlogRowE ++ tlogRowF

/-- The instruction of a code (R61). The list has 256 entries, so the default never stands for a code. -/
def instrOfCode (k : Code) : Instr := tlogRows.getD k.toNat .tlog00

/-- The range check of R137: true for the selectors that fault. -/
def selectorInvalid (selector : Nat) : Bool := decide (255 < selector)

/-! ## Entry words -/

/-- The permutation numbers of R55. -/
def permNumber : Perm → BitVec 3
  | .abc => 0#3
  | .bac => 1#3
  | .acb => 2#3
  | .cba => 3#3
  | .cab => 4#3
  | .bca => 5#3

/-- The permutation of a number; 6 and 7 are reserved (R55, R58). -/
def permOfNumber (n : BitVec 3) : Option Perm :=
  match n.toNat with
  | 0 => some .abc
  | 1 => some .bac
  | 2 => some .acb
  | 3 => some .cba
  | 4 => some .cab
  | 5 => some .bca
  | _ => none

/-- The layout of R54: `perm` in bits 10 to 8, `rep` in bits 7 to 0. -/
def entryWord (e : Entry) : EntryWord := permNumber e.perm ++ e.rep

/-- An entry word read back; a word with `perm` 6 or 7 has no entry (R58). -/
def entryOfWord (word : EntryWord) : Option Entry :=
  (permOfNumber (word.extractLsb' 8 3)).map fun p => ⟨word.extractLsb' 0 8, p⟩

/-- The instruction of an entry: the row of its permutation, with `rep` as the field (R61). -/
def instrOfEntry (e : Entry) : Instr :=
  match e.perm with
  | .abc => .rentryAbc e.rep
  | .bac => .rentryBac e.rep
  | .acb => .rentryAcb e.rep
  | .cba => .rentryCba e.rep
  | .cab => .rentryCab e.rep
  | .bca => .rentryBca e.rep

/-! ## Tag strings -/

/-- The first formula of a tag string and the tags after it: a node, then its children from left to right (R57).
The fuel bounds the nesting; the length of the string is enough. -/
def parseFormula : Nat → List Tag → Option (Formula × List Tag)
  | 0, _ => none
  | _ + 1, [] => none
  | fuel + 1, tag :: rest =>
    match tag.toNat with
    | 0 => some (.a, rest)
    | 1 => some (.b, rest)
    | 2 => some (.c, rest)
    | 3 => some (.ones, rest)
    | 4 => (parseFormula fuel rest).map fun p => (.not p.1, p.2)
    | 5 => parsePair Formula.and (parseFormula fuel) rest
    | 6 => parsePair Formula.or (parseFormula fuel) rest
    | _ => parsePair Formula.xor (parseFormula fuel) rest
where
  /-- Two formulas one after the other, joined by a node. -/
  parsePair (node : Formula → Formula → Formula) (parse : List Tag → Option (Formula × List Tag))
      (tags : List Tag) : Option (Formula × List Tag) :=
    (parse tags).bind fun l => (parse l.2).map fun r => (node l.1 r.1, r.2)

/-- The instruction of a formula: the row of its root node, with the children as operands (R57, R61). -/
def instrOfFormula (f : Formula) : Instr :=
  match f with
  | .a => .fnodeA
  | .b => .fnodeB
  | .c => .fnodeC
  | .ones => .fnodeOnes
  | .not f => .fnodeNot f
  | .and f g => .fnodeAnd f g
  | .or f g => .fnodeOr f g
  | .xor f g => .fnodeXor f g

/-! ## The decoder -/

/-- The instruction that something decodes to, or why it does not: R49 for a selector, R58 for an entry word, R57 for
a tag string, where tags after the end of the formula belong to no node (log 7). -/
def decode (e : Encoded) : Except DecodeError Instr :=
  match e with
  | .cmd selector =>
    if selectorInvalid selector then .error (.invalidCode selector)
    else .ok (instrOfCode (BitVec.ofNat 8 selector))
  | .rentry word =>
    match entryOfWord word with
    | some entry => .ok (instrOfEntry entry)
    | none => .error (.reservedPermutation (word.extractLsb' 8 3).toNat)
  | .fnode tags =>
    match parseFormula tags.length tags with
    | some (f, _) => .ok (instrOfFormula f)
    | none => .error .truncatedFormula

/-! ## The encoder -/

/-- The tags of a formula in prefix order (R57). -/
def formulaTags : Formula → List Tag
  | .a => [0#3]
  | .b => [1#3]
  | .c => [2#3]
  | .ones => [3#3]
  | .not f => 4#3 :: formulaTags f
  | .and f g => 5#3 :: (formulaTags f ++ formulaTags g)
  | .or f g => 6#3 :: (formulaTags f ++ formulaTags g)
  | .xor f g => 7#3 :: (formulaTags f ++ formulaTags g)

/-- What an instruction is encoded as, row by row of the opcode table (R61). -/
def encode (i : Instr) : Encoded :=
  match i with
  | .tlog00 => .cmd 0x00
  | .tlog01 => .cmd 0x01
  | .tlog02 => .cmd 0x02
  | .tlog03 => .cmd 0x03
  | .tlog04 => .cmd 0x04
  | .tlog05 => .cmd 0x05
  | .tlog06 => .cmd 0x06
  | .tlog07 => .cmd 0x07
  | .tlog08 => .cmd 0x08
  | .tlog09 => .cmd 0x09
  | .tlog0A => .cmd 0x0A
  | .tlog0B => .cmd 0x0B
  | .tlog0C => .cmd 0x0C
  | .tlog0D => .cmd 0x0D
  | .tlog0E => .cmd 0x0E
  | .tlog0F => .cmd 0x0F
  | .tlog10 => .cmd 0x10
  | .tlog11 => .cmd 0x11
  | .tlog12 => .cmd 0x12
  | .tlog13 => .cmd 0x13
  | .tlog14 => .cmd 0x14
  | .tlog15 => .cmd 0x15
  | .tlog16 => .cmd 0x16
  | .tlog17 => .cmd 0x17
  | .tlog18 => .cmd 0x18
  | .tlog19 => .cmd 0x19
  | .tlog1A => .cmd 0x1A
  | .tlog1B => .cmd 0x1B
  | .tlog1C => .cmd 0x1C
  | .tlog1D => .cmd 0x1D
  | .tlog1E => .cmd 0x1E
  | .tlog1F => .cmd 0x1F
  | .tlog20 => .cmd 0x20
  | .tlog21 => .cmd 0x21
  | .tlog22 => .cmd 0x22
  | .tlog23 => .cmd 0x23
  | .tlog24 => .cmd 0x24
  | .tlog25 => .cmd 0x25
  | .tlog26 => .cmd 0x26
  | .tlog27 => .cmd 0x27
  | .tlog28 => .cmd 0x28
  | .tlog29 => .cmd 0x29
  | .tlog2A => .cmd 0x2A
  | .tlog2B => .cmd 0x2B
  | .tlog2C => .cmd 0x2C
  | .tlog2D => .cmd 0x2D
  | .tlog2E => .cmd 0x2E
  | .tlog2F => .cmd 0x2F
  | .tlog30 => .cmd 0x30
  | .tlog31 => .cmd 0x31
  | .tlog32 => .cmd 0x32
  | .tlog33 => .cmd 0x33
  | .tlog34 => .cmd 0x34
  | .tlog35 => .cmd 0x35
  | .tlog36 => .cmd 0x36
  | .tlog37 => .cmd 0x37
  | .tlog38 => .cmd 0x38
  | .tlog39 => .cmd 0x39
  | .tlog3A => .cmd 0x3A
  | .tlog3B => .cmd 0x3B
  | .tlog3C => .cmd 0x3C
  | .tlog3D => .cmd 0x3D
  | .tlog3E => .cmd 0x3E
  | .tlog3F => .cmd 0x3F
  | .tlog40 => .cmd 0x40
  | .tlog41 => .cmd 0x41
  | .tlog42 => .cmd 0x42
  | .tlog43 => .cmd 0x43
  | .tlog44 => .cmd 0x44
  | .tlog45 => .cmd 0x45
  | .tlog46 => .cmd 0x46
  | .tlog47 => .cmd 0x47
  | .tlog48 => .cmd 0x48
  | .tlog49 => .cmd 0x49
  | .tlog4A => .cmd 0x4A
  | .tlog4B => .cmd 0x4B
  | .tlog4C => .cmd 0x4C
  | .tlog4D => .cmd 0x4D
  | .tlog4E => .cmd 0x4E
  | .tlog4F => .cmd 0x4F
  | .tlog50 => .cmd 0x50
  | .tlog51 => .cmd 0x51
  | .tlog52 => .cmd 0x52
  | .tlog53 => .cmd 0x53
  | .tlog54 => .cmd 0x54
  | .tlog55 => .cmd 0x55
  | .tlog56 => .cmd 0x56
  | .tlog57 => .cmd 0x57
  | .tlog58 => .cmd 0x58
  | .tlog59 => .cmd 0x59
  | .tlog5A => .cmd 0x5A
  | .tlog5B => .cmd 0x5B
  | .tlog5C => .cmd 0x5C
  | .tlog5D => .cmd 0x5D
  | .tlog5E => .cmd 0x5E
  | .tlog5F => .cmd 0x5F
  | .tlog60 => .cmd 0x60
  | .tlog61 => .cmd 0x61
  | .tlog62 => .cmd 0x62
  | .tlog63 => .cmd 0x63
  | .tlog64 => .cmd 0x64
  | .tlog65 => .cmd 0x65
  | .tlog66 => .cmd 0x66
  | .tlog67 => .cmd 0x67
  | .tlog68 => .cmd 0x68
  | .tlog69 => .cmd 0x69
  | .tlog6A => .cmd 0x6A
  | .tlog6B => .cmd 0x6B
  | .tlog6C => .cmd 0x6C
  | .tlog6D => .cmd 0x6D
  | .tlog6E => .cmd 0x6E
  | .tlog6F => .cmd 0x6F
  | .tlog70 => .cmd 0x70
  | .tlog71 => .cmd 0x71
  | .tlog72 => .cmd 0x72
  | .tlog73 => .cmd 0x73
  | .tlog74 => .cmd 0x74
  | .tlog75 => .cmd 0x75
  | .tlog76 => .cmd 0x76
  | .tlog77 => .cmd 0x77
  | .tlog78 => .cmd 0x78
  | .tlog79 => .cmd 0x79
  | .tlog7A => .cmd 0x7A
  | .tlog7B => .cmd 0x7B
  | .tlog7C => .cmd 0x7C
  | .tlog7D => .cmd 0x7D
  | .tlog7E => .cmd 0x7E
  | .tlog7F => .cmd 0x7F
  | .tlog80 => .cmd 0x80
  | .tlog81 => .cmd 0x81
  | .tlog82 => .cmd 0x82
  | .tlog83 => .cmd 0x83
  | .tlog84 => .cmd 0x84
  | .tlog85 => .cmd 0x85
  | .tlog86 => .cmd 0x86
  | .tlog87 => .cmd 0x87
  | .tlog88 => .cmd 0x88
  | .tlog89 => .cmd 0x89
  | .tlog8A => .cmd 0x8A
  | .tlog8B => .cmd 0x8B
  | .tlog8C => .cmd 0x8C
  | .tlog8D => .cmd 0x8D
  | .tlog8E => .cmd 0x8E
  | .tlog8F => .cmd 0x8F
  | .tlog90 => .cmd 0x90
  | .tlog91 => .cmd 0x91
  | .tlog92 => .cmd 0x92
  | .tlog93 => .cmd 0x93
  | .tlog94 => .cmd 0x94
  | .tlog95 => .cmd 0x95
  | .tlog96 => .cmd 0x96
  | .tlog97 => .cmd 0x97
  | .tlog98 => .cmd 0x98
  | .tlog99 => .cmd 0x99
  | .tlog9A => .cmd 0x9A
  | .tlog9B => .cmd 0x9B
  | .tlog9C => .cmd 0x9C
  | .tlog9D => .cmd 0x9D
  | .tlog9E => .cmd 0x9E
  | .tlog9F => .cmd 0x9F
  | .tlogA0 => .cmd 0xA0
  | .tlogA1 => .cmd 0xA1
  | .tlogA2 => .cmd 0xA2
  | .tlogA3 => .cmd 0xA3
  | .tlogA4 => .cmd 0xA4
  | .tlogA5 => .cmd 0xA5
  | .tlogA6 => .cmd 0xA6
  | .tlogA7 => .cmd 0xA7
  | .tlogA8 => .cmd 0xA8
  | .tlogA9 => .cmd 0xA9
  | .tlogAA => .cmd 0xAA
  | .tlogAB => .cmd 0xAB
  | .tlogAC => .cmd 0xAC
  | .tlogAD => .cmd 0xAD
  | .tlogAE => .cmd 0xAE
  | .tlogAF => .cmd 0xAF
  | .tlogB0 => .cmd 0xB0
  | .tlogB1 => .cmd 0xB1
  | .tlogB2 => .cmd 0xB2
  | .tlogB3 => .cmd 0xB3
  | .tlogB4 => .cmd 0xB4
  | .tlogB5 => .cmd 0xB5
  | .tlogB6 => .cmd 0xB6
  | .tlogB7 => .cmd 0xB7
  | .tlogB8 => .cmd 0xB8
  | .tlogB9 => .cmd 0xB9
  | .tlogBA => .cmd 0xBA
  | .tlogBB => .cmd 0xBB
  | .tlogBC => .cmd 0xBC
  | .tlogBD => .cmd 0xBD
  | .tlogBE => .cmd 0xBE
  | .tlogBF => .cmd 0xBF
  | .tlogC0 => .cmd 0xC0
  | .tlogC1 => .cmd 0xC1
  | .tlogC2 => .cmd 0xC2
  | .tlogC3 => .cmd 0xC3
  | .tlogC4 => .cmd 0xC4
  | .tlogC5 => .cmd 0xC5
  | .tlogC6 => .cmd 0xC6
  | .tlogC7 => .cmd 0xC7
  | .tlogC8 => .cmd 0xC8
  | .tlogC9 => .cmd 0xC9
  | .tlogCA => .cmd 0xCA
  | .tlogCB => .cmd 0xCB
  | .tlogCC => .cmd 0xCC
  | .tlogCD => .cmd 0xCD
  | .tlogCE => .cmd 0xCE
  | .tlogCF => .cmd 0xCF
  | .tlogD0 => .cmd 0xD0
  | .tlogD1 => .cmd 0xD1
  | .tlogD2 => .cmd 0xD2
  | .tlogD3 => .cmd 0xD3
  | .tlogD4 => .cmd 0xD4
  | .tlogD5 => .cmd 0xD5
  | .tlogD6 => .cmd 0xD6
  | .tlogD7 => .cmd 0xD7
  | .tlogD8 => .cmd 0xD8
  | .tlogD9 => .cmd 0xD9
  | .tlogDA => .cmd 0xDA
  | .tlogDB => .cmd 0xDB
  | .tlogDC => .cmd 0xDC
  | .tlogDD => .cmd 0xDD
  | .tlogDE => .cmd 0xDE
  | .tlogDF => .cmd 0xDF
  | .tlogE0 => .cmd 0xE0
  | .tlogE1 => .cmd 0xE1
  | .tlogE2 => .cmd 0xE2
  | .tlogE3 => .cmd 0xE3
  | .tlogE4 => .cmd 0xE4
  | .tlogE5 => .cmd 0xE5
  | .tlogE6 => .cmd 0xE6
  | .tlogE7 => .cmd 0xE7
  | .tlogE8 => .cmd 0xE8
  | .tlogE9 => .cmd 0xE9
  | .tlogEA => .cmd 0xEA
  | .tlogEB => .cmd 0xEB
  | .tlogEC => .cmd 0xEC
  | .tlogED => .cmd 0xED
  | .tlogEE => .cmd 0xEE
  | .tlogEF => .cmd 0xEF
  | .tlogF0 => .cmd 0xF0
  | .tlogF1 => .cmd 0xF1
  | .tlogF2 => .cmd 0xF2
  | .tlogF3 => .cmd 0xF3
  | .tlogF4 => .cmd 0xF4
  | .tlogF5 => .cmd 0xF5
  | .tlogF6 => .cmd 0xF6
  | .tlogF7 => .cmd 0xF7
  | .tlogF8 => .cmd 0xF8
  | .tlogF9 => .cmd 0xF9
  | .tlogFA => .cmd 0xFA
  | .tlogFB => .cmd 0xFB
  | .tlogFC => .cmd 0xFC
  | .tlogFD => .cmd 0xFD
  | .tlogFE => .cmd 0xFE
  | .tlogFF => .cmd 0xFF
  | .rentryAbc rep => .rentry (entryWord ⟨rep, .abc⟩)
  | .rentryBac rep => .rentry (entryWord ⟨rep, .bac⟩)
  | .rentryAcb rep => .rentry (entryWord ⟨rep, .acb⟩)
  | .rentryCba rep => .rentry (entryWord ⟨rep, .cba⟩)
  | .rentryCab rep => .rentry (entryWord ⟨rep, .cab⟩)
  | .rentryBca rep => .rentry (entryWord ⟨rep, .bca⟩)
  | .fnodeA => .fnode (formulaTags .a)
  | .fnodeB => .fnode (formulaTags .b)
  | .fnodeC => .fnode (formulaTags .c)
  | .fnodeOnes => .fnode (formulaTags .ones)
  | .fnodeNot f => .fnode (formulaTags (.not f))
  | .fnodeAnd f g => .fnode (formulaTags (.and f g))
  | .fnodeOr f g => .fnode (formulaTags (.or f g))
  | .fnodeXor f g => .fnode (formulaTags (.xor f g))

/-! ## Words as the opcode table numbers them -/

/-- The first `n` tags of a number, bits 2 to 0 first. -/
def tagsOfNat : Nat → Nat → List Tag
  | 0, _ => []
  | n + 1, w => BitVec.ofNat 3 w :: tagsOfNat n (w / 8)

/-- What the bits `w` of a table row of `nbits` bits encode. The three formats are told apart by the row's length: below 8
bits a tag string (its first tags from `w`, then tags 0, enough of them to end every formula), 8 bits a selector, 9 to 16
bits an entry word, whose bits 15 to 11 do not exist and must be 0. DESIGN CHOICE, safe (log 8). -/
def tableWord (nbits w : Nat) : Option Encoded :=
  if nbits < 8 then some (.fnode (tagsOfNat (2 * nbits + 1) w))
  else if nbits = 8 then some (.cmd w)
  else if nbits ≤ 16 && decide (w < 2048) then some (.rentry (BitVec.ofNat 11 w))
  else none

/-- The instruction the decoder reads from a row's bits. -/
def decodeTableWord (nbits w : Nat) : Option Instr :=
  match tableWord nbits w with
  | some e => (decode e).toOption
  | none => none

end Sys2Proof
end

