-- ==== Sys2Proof/Machine/Table.lean ====
section
/-! DEFINITION. The reduction table as a memory (20_memory.md) and the builder that makes it (43_reduction_table.md). -/

namespace Sys2Proof.Machine

/-! ## The memory -/

/-- A memory of entry words: pairs of an entry index and the word there (R23, R31). An index that is not listed holds no word:
only the indices 0x00 to 0xFF exist (R38), and a built table lists all of them (R30). The cells are whole
words, not bytes. DESIGN CHOICE, safe (log 12). -/
abbrev Memory := List (Nat × EntryWord)

/-- `MemRead(k, 1)` (R32): the word at an index, if there is one. -/
def Memory.read (m : Memory) (index : Nat) : Option EntryWord := m.lookup index

/-- The canonical form: indices strictly rising and none outside the space of R38. A listed word never equals what an
unlisted index reads as, since that is no word. -/
abbrev Memory.wf (m : Memory) : Prop :=
  (m.map Prod.fst).Pairwise (· < ·) ∧ ∀ index ∈ m.map Prod.fst, index < 256

/-- Consecutive words from an index on. -/
def Memory.imageFrom : Nat → List EntryWord → Memory
  | _, [] => []
  | n, word :: rest => (n, word) :: Memory.imageFrom (n + 1) rest

/-- The memory that holds a list of words, the first at index 0 (R31, R127). -/
def Memory.image (words : List EntryWord) : Memory := Memory.imageFrom 0 words

/-! ## The builder -/

/-- The entry that the builder gives a code: the code itself where it is in the set, else the first permutation of the
search order that carries it into the set (R122). -/
def findEntry (primary : List Code) (k : Code) : Option Entry :=
  if primary.contains k then some ⟨k, .abc⟩
  else (searchOrder.find? fun p => primary.contains (permuteCode k p)).map fun p => ⟨permuteCode k p, p⟩

/-- The loop of R122 over some codes: their entries, or the first code that has none. -/
def buildEntries (primary : List Code) : List Code → Except Code (List Entry)
  | [] => .ok []
  | k :: rest =>
    match findEntry primary k with
    | none => .error k
    | some e =>
      match buildEntries primary rest with
      | .ok es => .ok (e :: es)
      | .error j => .error j

/-- `BuildReductionTable(S)` (R121, R122): all 256 entries, or the smallest uncovered code (R124). -/
def buildReductionTable (primary : List Code) : Except Code (List Entry) := buildEntries primary allCodes

/-- The table as it is published: the memory of the built entries, and none where the build fails (R124, R192). -/
def publishedTable (primary : List Code) : Option Memory :=
  match buildReductionTable primary with
  | .ok es => some (Memory.image (es.map entryWord))
  | .error _ => none

end Sys2Proof.Machine
end

