-- ==== Sys2Proof/Machine/State.lean ====
section
/-! DEFINITION. The state of an instance of TLD, why a step stops, and the instance the model starts from. -/

namespace Sys2Proof.Machine

/-- What the next step decodes. The first is the only thing the hardware's ports can present (R16, R61); the other two
present one word at a place inside the block. The model's own, DESIGN CHOICE, safe (log 5). -/
inductive Stimulus where
  /-- the selector on port `sel`: an evaluation (R135) -/
  | command
  /-- an entry word at the output of the reduction table: what the multiplexer and the formula select are given (R7) -/
  | entry (word : EntryWord)
  /-- the tags of a formula at the per-lane ALU (R57) -/
  | formula (tags : List Tag)
  deriving DecidableEq, Repr

/-- An instance with `w` lanes and a selector of `selw` bits (R9, R16): constants, what is presented, and the outputs of the step
before, which no step reads. Nothing else is kept: the hardware has no state (R15, R22, log 6). -/
structure Block (w selw : Nat) where
  /-- what was fixed when the instance was built (R8); a parameter of the step (R15), carried here (log 6) -/
  cfg : Config
  /-- the reduction table `RT` (R23, R31); nothing writes it (R34) -/
  rt : Memory
  /-- what the next step decodes (log 5) -/
  stimulus : Stimulus
  /-- port `sel`, in -/
  sel : BitVec selw
  /-- ports `a`, `b`, `c`, in -/
  operands : Triple (BitVec w)
  /-- port `r`, out: the result last delivered -/
  r : BitVec w
  /-- port `err`, out, of the evaluation that last delivered a result -/
  err : Bool
  deriving DecidableEq, Repr

/-- The machine's state: an instance, whatever its two widths. -/
structure State where
  /-- `W`, the number of lanes (R9) -/
  w : Nat
  /-- `SELW`, the width of port `sel` (R8) -/
  selw : Nat
  /-- the instance -/
  block : Block w selw
  deriving DecidableEq, Repr

/-- The faults of 60_exceptions.md. -/
inductive Fault where
  /-- InvalidCode (R162), raised by a step whose selector is above 255; carries the selector. Safe: the spec prescribes it. -/
  | invalidCode (selector : Nat)
  /-- IncompleteCoverage (R163), raised by `instantiate` only, never by a step; carries the smallest uncovered code. Safe: the
  spec prescribes it. -/
  | incompleteCoverage (code : Code)
  deriving DecidableEq, Repr

/-- What the model refuses. -/
inductive Refusal where
  /-- an instruction without a meaning; no arm of `exec` answers it -/
  | notModelled (mnemonic : String)
  /-- raised by a step or an evaluation that decodes an entry word with `perm` 6 or 7 (R58, U7). Safe. -/
  | reservedPermutation (number : Nat)
  /-- raised by a step whose tag string ends before its formula does (R57). Safe. -/
  | truncatedFormula
  /-- raised by an evaluation whose table holds no word for its code; no built table is so (R33, R38). Safe. -/
  | absentEntry (index : Nat)
  /-- raised where an entry names a code without a formula, which has no value to give (R58, R87, U5, U8): by a step on an entry word
  presented on its own (log 5), or by an evaluation whose table holds such an entry, which no built table does. Safe. -/
  | noFormula (rep : Code)
  /-- raised by `instantiate` for `W = 0` (R8). Safe. -/
  | zeroWidth
  /-- raised by `instantiate` for `SELW < 8` (R8). Safe. -/
  | narrowSelector (selw : Nat)
  /-- raised by `instantiate` where the library's codes are not strictly rising (log 9). Safe. -/
  | malformedLibrary
  /-- raised by `instantiate` for a formula whose code is not the one it stands for (R80, U4). Safe. -/
  | wrongFormula (code : Code)
  deriving DecidableEq, Repr

/-- An instance before anything was presented to it: every input, and with it every output, 0.
DESIGN CHOICE, unsafe (log 3): the spec gives no value to inputs, and the outputs are functions of them (R26). -/
def Block.initial {w selw : Nat} (cfg : Config) (rt : Memory) : Block w selw :=
  { cfg, rt, stimulus := .command, sel := 0, operands := ⟨0, 0, 0⟩, r := 0, err := false }

/-- The instance the model starts from (R190, R191): the default configuration and the table of R127, `SELW = 8` (R8), and `W = 8`,
which the spec leaves open. DESIGN CHOICE, unsafe (log 1). -/
def State.reset : State := ⟨8, 8, Block.initial defaultConfig (Memory.image romDefault)⟩

end Sys2Proof.Machine
end

