-- ==== Sys2Proof/WellFormed.lean ====
section
/-! DEFINITION. What is checked of an instruction before it is part of an instance: the fields the spec restricts. -/

namespace Sys2Proof

/-- The `rep` field of an entry must be a member of `PRIMARY` (R58); a selector and a formula have no restricted field
(R51, R58). -/
def instrWellFormed (primary : List Code) (i : Instr) : Bool :=
  match encode i with
  | .cmd _ => true
  | .rentry word => primary.contains (word.extractLsb' 0 8)
  | .fnode _ => true

/-- An encoded instruction fits a place: a selector fits a port of `selw` bits (R48). -/
def encodedFits (selw : Nat) (e : Encoded) : Bool :=
  match e with
  | .cmd selector => decide (selector < 2 ^ selw)
  | .rentry _ => true
  | .fnode _ => true

end Sys2Proof
end

