-- ==== Sys2Proof/Machine/Ops.lean ====
section
/-! DEFINITION. The shared operations: what the host can do to the ports, the steps of an evaluation (44_dispatcher.md), how
results and faults leave the block, and fetching. -/

namespace Sys2Proof.Machine

/-! ## Changes of a block -/

/-- The host drives the inputs and presents an evaluation (R16, R178). -/
def Block.present {w selw : Nat} (s : Block w selw) (sel : BitVec selw) (operands : Triple (BitVec w)) : Block w selw :=
  { s with stimulus := .command, sel, operands }

/-- Something is put in the place the next step decodes (log 5). -/
def Block.withStimulus {w selw : Nat} (s : Block w selw) (stimulus : Stimulus) : Block w selw := { s with stimulus }

/-- A result leaves on port `r`, with `err = 0` (R16, R135). -/
def Block.deliver {w selw : Nat} (s : Block w selw) (r : BitVec w) : Block w selw := { s with r, err := false }

/-- `Block.present` of an instance. -/
def State.present (s : State) (sel : BitVec s.selw) (operands : Triple (BitVec s.w)) : State :=
  ⟨s.w, s.selw, s.block.present sel operands⟩

/-- `Block.withStimulus` of an instance. -/
def State.withStimulus (s : State) (stimulus : Stimulus) : State := ⟨s.w, s.selw, s.block.withStimulus stimulus⟩

/-! ## Outcomes -/

/-- The InvalidCode fault (R160, R162, R168): the evaluation ends without a result, nothing is saved or changed and control goes
nowhere; the fault carries the selector. There is no trap entry and no return from one (R168, R169). That the step then has no next
state is the spec's decision D13 (log 2). -/
def raiseInvalidCode (selector : Nat) : Host.Outcome State Fault Refusal := .fault (.invalidCode selector)

/-- How a step ends that decodes nothing. -/
def reject (e : DecodeError) : Host.Outcome State Fault Refusal :=
  match e with
  | .invalidCode selector => raiseInvalidCode selector
  | .reservedPermutation number => .refused (.reservedPermutation number)
  | .truncatedFormula => .refused .truncatedFormula

/-! ## The steps of an evaluation -/

/-- Lookup (R138): the entry of a code, read from the table. -/
def readEntry (rt : Memory) (k : Code) : Except Refusal Entry :=
  match rt.read k.toNat with
  | none => .error (.absentEntry k.toNat)
  | some word =>
    match entryOfWord word with
    | none => .error (.reservedPermutation (word.extractLsb' 8 3).toNat)
    | some e => .ok e

/-- What stands on the wires behind the table during one evaluation, and only then (R7, R22): a value of a step, no part of the state. -/
structure Wires (w : Nat) where
  /-- the multiplexer's outputs `a'`, `b'`, `c'` (R99) -/
  mux : Triple (BitVec w)
  /-- the formula select (R7, R88) -/
  rep : Code
  deriving DecidableEq, Repr

/-- An entry steers the operand multiplexer and gives the formula select its representative (R7, R99). -/
def routeEntry {w : Nat} (e : Entry) (operands : Triple (BitVec w)) : Wires w := ⟨permuteOperands operands e.perm, e.rep⟩

/-- The formula that is selected, on the multiplexer's outputs (R88, R139). A code without a formula has no value (R87, U5). -/
def runWires {w : Nat} (cfg : Config) (x : Wires w) : Except Refusal (BitVec w) :=
  match cfg.formula? x.rep with
  | none => .error (.noFormula x.rep)
  | some f => .ok (eval f x.mux)

/-- `Evaluate` of a code through table, multiplexer and formula (R135). -/
def reducedEvaluate {w : Nat} (cfg : Config) (rt : Memory) (k : Code) (operands : Triple (BitVec w)) :
    Except Refusal (BitVec w) :=
  match readEntry rt k with
  | .error e => .error e
  | .ok entry => runWires cfg (routeEntry entry operands)

/-- `Evaluate` of a code (R135), directly where the instance has the native bypass (R147). -/
def evaluate {w : Nat} (cfg : Config) (rt : Memory) (k : Code) (operands : Triple (BitVec w)) : Except Refusal (BitVec w) :=
  if cfg.nativeLut then .ok (ref k operands) else reducedEvaluate cfg rt k operands

/-- A result drives port `r` of an instance, and nothing else changes (R88, R141). -/
def driveResult (s : State) (r : BitVec s.w) : Host.Outcome State Fault Refusal := .next ⟨s.w, s.selw, s.block.deliver r⟩

/-- How a step ends whose result was computed, or was not. -/
def conclude (s : State) (result : Except Refusal (BitVec s.w)) : Host.Outcome State Fault Refusal :=
  match result with
  | .ok r => driveResult s r
  | .error e => .refused e

/-- One evaluation of a code on an instance (R135). -/
def evaluateCode (k : Code) (s : State) : Host.Outcome State Fault Refusal :=
  conclude s (evaluate s.block.cfg s.block.rt k s.block.operands)

/-- The rest of an evaluation, from an entry presented in the place of the table's output on (R7, R139); the ports' operands are
reordered and the entry's formula drives the result. The table is not read, whatever `NATIVE_LUT` is, and a representative outside the
Primary set is refused as it is in a table (U8). That a step can begin here is the model's own, DESIGN CHOICE, safe (log 5). -/
def evaluateEntry (e : Entry) (s : State) : Host.Outcome State Fault Refusal :=
  conclude s (runWires s.block.cfg (routeEntry e s.block.operands))

/-- The value of a formula presented on its own: its leaves are bound to the ports' operands in their order (R78). DESIGN CHOICE, safe
(log 5). -/
def evalOnPorts (f : Formula) (s : State) : BitVec s.w := eval f s.block.operands

/-! ## Fetching -/

/-- What the next step decodes. -/
def Block.encoded {w selw : Nat} (s : Block w selw) : Encoded :=
  match s.stimulus with
  | .command => .cmd s.sel.toNat
  | .entry word => .rentry word
  | .formula tags => .fnode tags

/-- The instruction of the next step, or why there is none. -/
def fetch (s : State) : Except DecodeError Instr := decode s.block.encoded

/-- Something encoded is put where the next step fetches it: a selector on port `sel`, the others in their place inside (log 5). -/
def State.place (s : State) (e : Encoded) : State :=
  match e with
  | .cmd selector => s.present (BitVec.ofNat s.selw selector) s.block.operands
  | .rentry word => s.withStimulus (.entry word)
  | .fnode tags => s.withStimulus (.formula tags)

/-- `State.place` of what fits its place. A number too wide for port `sel` is not put there, and nothing changes: no port can carry it
(R25, R48), and the spec says nothing of presenting it. DESIGN CHOICE, safe (log 8). -/
def State.store (s : State) (e : Encoded) : State := if encodedFits s.selw e then s.place e else s

end Sys2Proof.Machine
end

