-- ==== Sys2Proof/Machine/Fnode.lean ====
section
/-! DEFINITION. The meanings of the eight FNODE rows: the root node of a formula, evaluated on the operands presented with it, drives
the result (R78, R88, log 5). -/

namespace Sys2Proof.Machine

/-- `FNODE.A` (R78). -/
def execFnodeA (s : State) : Host.Outcome State Fault Refusal := driveResult s s.block.operands.a

/-- `FNODE.B` (R78). -/
def execFnodeB (s : State) : Host.Outcome State Fault Refusal := driveResult s s.block.operands.b

/-- `FNODE.C` (R78). -/
def execFnodeC (s : State) : Host.Outcome State Fault Refusal := driveResult s s.block.operands.c

/-- `FNODE.ONES` (R70). -/
def execFnodeOnes (s : State) : Host.Outcome State Fault Refusal := driveResult s (vOnes s.w)

/-- `FNODE.NOT` (R69). -/
def execFnodeNot (f : Formula) (s : State) : Host.Outcome State Fault Refusal := driveResult s (vNot (evalOnPorts f s))

/-- `FNODE.AND` (R66). -/
def execFnodeAnd (f g : Formula) (s : State) : Host.Outcome State Fault Refusal :=
  driveResult s (vAnd (evalOnPorts f s) (evalOnPorts g s))

/-- `FNODE.OR` (R67). -/
def execFnodeOr (f g : Formula) (s : State) : Host.Outcome State Fault Refusal :=
  driveResult s (vOr (evalOnPorts f s) (evalOnPorts g s))

/-- `FNODE.XOR` (R68). -/
def execFnodeXor (f g : Formula) (s : State) : Host.Outcome State Fault Refusal :=
  driveResult s (vXor (evalOnPorts f s) (evalOnPorts g s))

end Sys2Proof.Machine
end

