-- ==== Sys2Proof/Machine/Rentry.lean ====
section
/-! DEFINITION. The meanings of the six RENTRY rows: an entry word steers the operand multiplexer with its permutation and selects the
formula of its representative, whose value drives the result (R7, R92 to R99, R139). -/

namespace Sys2Proof.Machine

/-- `RENTRY.abc` (R93): `(a', b', c') = (a, b, c)`. -/
def execRentryAbc (rep : Code) (s : State) : Host.Outcome State Fault Refusal := evaluateEntry ⟨rep, .abc⟩ s

/-- `RENTRY.bac` (R94): `(a', b', c') = (b, a, c)`. -/
def execRentryBac (rep : Code) (s : State) : Host.Outcome State Fault Refusal := evaluateEntry ⟨rep, .bac⟩ s

/-- `RENTRY.acb` (R95): `(a', b', c') = (a, c, b)`. -/
def execRentryAcb (rep : Code) (s : State) : Host.Outcome State Fault Refusal := evaluateEntry ⟨rep, .acb⟩ s

/-- `RENTRY.cba` (R96): `(a', b', c') = (c, b, a)`. -/
def execRentryCba (rep : Code) (s : State) : Host.Outcome State Fault Refusal := evaluateEntry ⟨rep, .cba⟩ s

/-- `RENTRY.cab` (R97): `(a', b', c') = (c, a, b)`. -/
def execRentryCab (rep : Code) (s : State) : Host.Outcome State Fault Refusal := evaluateEntry ⟨rep, .cab⟩ s

/-- `RENTRY.bca` (R98): `(a', b', c') = (b, c, a)`. -/
def execRentryBca (rep : Code) (s : State) : Host.Outcome State Fault Refusal := evaluateEntry ⟨rep, .bca⟩ s

end Sys2Proof.Machine
end

