-- ==== Sys2Proof/Machine/Tlog00To3F.lean ====
section
/-! DEFINITION. The meanings of TLOG.00 to TLOG.3F (45_codes_00_3f.md, R300 to R363): each is the operation Evaluate of R135
with the code fixed, which is also the static variant of R145. -/

namespace Sys2Proof.Machine

/-- `TLOG.00` (R300): constant 0. -/
def execTlog00 (s : State) : Host.Outcome State Fault Refusal := evaluateCode 0x00#8 s

/-- `TLOG.01` (R301): NOT (A OR B OR C). -/
def execTlog01 (s : State) : Host.Outcome State Fault Refusal := evaluateCode 0x01#8 s

/-- `TLOG.02` (R302). -/
def execTlog02 (s : State) : Host.Outcome State Fault Refusal := evaluateCode 0x02#8 s

/-- `TLOG.03` (R303): NOT (A OR B). -/
def execTlog03 (s : State) : Host.Outcome State Fault Refusal := evaluateCode 0x03#8 s

/-- `TLOG.04` (R304). -/
def execTlog04 (s : State) : Host.Outcome State Fault Refusal := evaluateCode 0x04#8 s

/-- `TLOG.05` (R305): NOT (A OR C). -/
def execTlog05 (s : State) : Host.Outcome State Fault Refusal := evaluateCode 0x05#8 s

/-- `TLOG.06` (R306). -/
def execTlog06 (s : State) : Host.Outcome State Fault Refusal := evaluateCode 0x06#8 s

/-- `TLOG.07` (R307). -/
def execTlog07 (s : State) : Host.Outcome State Fault Refusal := evaluateCode 0x07#8 s

/-- `TLOG.08` (R308). -/
def execTlog08 (s : State) : Host.Outcome State Fault Refusal := evaluateCode 0x08#8 s

/-- `TLOG.09` (R309). -/
def execTlog09 (s : State) : Host.Outcome State Fault Refusal := evaluateCode 0x09#8 s

/-- `TLOG.0A` (R310). -/
def execTlog0A (s : State) : Host.Outcome State Fault Refusal := evaluateCode 0x0A#8 s

/-- `TLOG.0B` (R311). -/
def execTlog0B (s : State) : Host.Outcome State Fault Refusal := evaluateCode 0x0B#8 s

/-- `TLOG.0C` (R312). -/
def execTlog0C (s : State) : Host.Outcome State Fault Refusal := evaluateCode 0x0C#8 s

/-- `TLOG.0D` (R313). -/
def execTlog0D (s : State) : Host.Outcome State Fault Refusal := evaluateCode 0x0D#8 s

/-- `TLOG.0E` (R314). -/
def execTlog0E (s : State) : Host.Outcome State Fault Refusal := evaluateCode 0x0E#8 s

/-- `TLOG.0F` (R315): NOT A. -/
def execTlog0F (s : State) : Host.Outcome State Fault Refusal := evaluateCode 0x0F#8 s

/-- `TLOG.10` (R316). -/
def execTlog10 (s : State) : Host.Outcome State Fault Refusal := evaluateCode 0x10#8 s

/-- `TLOG.11` (R317): NOT (B OR C). -/
def execTlog11 (s : State) : Host.Outcome State Fault Refusal := evaluateCode 0x11#8 s

/-- `TLOG.12` (R318). -/
def execTlog12 (s : State) : Host.Outcome State Fault Refusal := evaluateCode 0x12#8 s

/-- `TLOG.13` (R319). -/
def execTlog13 (s : State) : Host.Outcome State Fault Refusal := evaluateCode 0x13#8 s

/-- `TLOG.14` (R320). -/
def execTlog14 (s : State) : Host.Outcome State Fault Refusal := evaluateCode 0x14#8 s

/-- `TLOG.15` (R321). -/
def execTlog15 (s : State) : Host.Outcome State Fault Refusal := evaluateCode 0x15#8 s

/-- `TLOG.16` (R322): exactly one of A, B, C is 1. -/
def execTlog16 (s : State) : Host.Outcome State Fault Refusal := evaluateCode 0x16#8 s

/-- `TLOG.17` (R323): minority (complement of majority). -/
def execTlog17 (s : State) : Host.Outcome State Fault Refusal := evaluateCode 0x17#8 s

/-- `TLOG.18` (R324). -/
def execTlog18 (s : State) : Host.Outcome State Fault Refusal := evaluateCode 0x18#8 s

/-- `TLOG.19` (R325). -/
def execTlog19 (s : State) : Host.Outcome State Fault Refusal := evaluateCode 0x19#8 s

/-- `TLOG.1A` (R326). -/
def execTlog1A (s : State) : Host.Outcome State Fault Refusal := evaluateCode 0x1A#8 s

/-- `TLOG.1B` (R327). -/
def execTlog1B (s : State) : Host.Outcome State Fault Refusal := evaluateCode 0x1B#8 s

/-- `TLOG.1C` (R328). -/
def execTlog1C (s : State) : Host.Outcome State Fault Refusal := evaluateCode 0x1C#8 s

/-- `TLOG.1D` (R329). -/
def execTlog1D (s : State) : Host.Outcome State Fault Refusal := evaluateCode 0x1D#8 s

/-- `TLOG.1E` (R330). -/
def execTlog1E (s : State) : Host.Outcome State Fault Refusal := evaluateCode 0x1E#8 s

/-- `TLOG.1F` (R331). -/
def execTlog1F (s : State) : Host.Outcome State Fault Refusal := evaluateCode 0x1F#8 s

/-- `TLOG.20` (R332). -/
def execTlog20 (s : State) : Host.Outcome State Fault Refusal := evaluateCode 0x20#8 s

/-- `TLOG.21` (R333). -/
def execTlog21 (s : State) : Host.Outcome State Fault Refusal := evaluateCode 0x21#8 s

/-- `TLOG.22` (R334). -/
def execTlog22 (s : State) : Host.Outcome State Fault Refusal := evaluateCode 0x22#8 s

/-- `TLOG.23` (R335). -/
def execTlog23 (s : State) : Host.Outcome State Fault Refusal := evaluateCode 0x23#8 s

/-- `TLOG.24` (R336). -/
def execTlog24 (s : State) : Host.Outcome State Fault Refusal := evaluateCode 0x24#8 s

/-- `TLOG.25` (R337). -/
def execTlog25 (s : State) : Host.Outcome State Fault Refusal := evaluateCode 0x25#8 s

/-- `TLOG.26` (R338). -/
def execTlog26 (s : State) : Host.Outcome State Fault Refusal := evaluateCode 0x26#8 s

/-- `TLOG.27` (R339). -/
def execTlog27 (s : State) : Host.Outcome State Fault Refusal := evaluateCode 0x27#8 s

/-- `TLOG.28` (R340). -/
def execTlog28 (s : State) : Host.Outcome State Fault Refusal := evaluateCode 0x28#8 s

/-- `TLOG.29` (R341). -/
def execTlog29 (s : State) : Host.Outcome State Fault Refusal := evaluateCode 0x29#8 s

/-- `TLOG.2A` (R342). -/
def execTlog2A (s : State) : Host.Outcome State Fault Refusal := evaluateCode 0x2A#8 s

/-- `TLOG.2B` (R343). -/
def execTlog2B (s : State) : Host.Outcome State Fault Refusal := evaluateCode 0x2B#8 s

/-- `TLOG.2C` (R344). -/
def execTlog2C (s : State) : Host.Outcome State Fault Refusal := evaluateCode 0x2C#8 s

/-- `TLOG.2D` (R345). -/
def execTlog2D (s : State) : Host.Outcome State Fault Refusal := evaluateCode 0x2D#8 s

/-- `TLOG.2E` (R346). -/
def execTlog2E (s : State) : Host.Outcome State Fault Refusal := evaluateCode 0x2E#8 s

/-- `TLOG.2F` (R347). -/
def execTlog2F (s : State) : Host.Outcome State Fault Refusal := evaluateCode 0x2F#8 s

/-- `TLOG.30` (R348). -/
def execTlog30 (s : State) : Host.Outcome State Fault Refusal := evaluateCode 0x30#8 s

/-- `TLOG.31` (R349). -/
def execTlog31 (s : State) : Host.Outcome State Fault Refusal := evaluateCode 0x31#8 s

/-- `TLOG.32` (R350). -/
def execTlog32 (s : State) : Host.Outcome State Fault Refusal := evaluateCode 0x32#8 s

/-- `TLOG.33` (R351): NOT B. -/
def execTlog33 (s : State) : Host.Outcome State Fault Refusal := evaluateCode 0x33#8 s

/-- `TLOG.34` (R352). -/
def execTlog34 (s : State) : Host.Outcome State Fault Refusal := evaluateCode 0x34#8 s

/-- `TLOG.35` (R353). -/
def execTlog35 (s : State) : Host.Outcome State Fault Refusal := evaluateCode 0x35#8 s

/-- `TLOG.36` (R354). -/
def execTlog36 (s : State) : Host.Outcome State Fault Refusal := evaluateCode 0x36#8 s

/-- `TLOG.37` (R355). -/
def execTlog37 (s : State) : Host.Outcome State Fault Refusal := evaluateCode 0x37#8 s

/-- `TLOG.38` (R356). -/
def execTlog38 (s : State) : Host.Outcome State Fault Refusal := evaluateCode 0x38#8 s

/-- `TLOG.39` (R357). -/
def execTlog39 (s : State) : Host.Outcome State Fault Refusal := evaluateCode 0x39#8 s

/-- `TLOG.3A` (R358). -/
def execTlog3A (s : State) : Host.Outcome State Fault Refusal := evaluateCode 0x3A#8 s

/-- `TLOG.3B` (R359). -/
def execTlog3B (s : State) : Host.Outcome State Fault Refusal := evaluateCode 0x3B#8 s

/-- `TLOG.3C` (R360): A XOR B. -/
def execTlog3C (s : State) : Host.Outcome State Fault Refusal := evaluateCode 0x3C#8 s

/-- `TLOG.3D` (R361). -/
def execTlog3D (s : State) : Host.Outcome State Fault Refusal := evaluateCode 0x3D#8 s

/-- `TLOG.3E` (R362). -/
def execTlog3E (s : State) : Host.Outcome State Fault Refusal := evaluateCode 0x3E#8 s

/-- `TLOG.3F` (R363): NOT (A AND B). -/
def execTlog3F (s : State) : Host.Outcome State Fault Refusal := evaluateCode 0x3F#8 s

end Sys2Proof.Machine
end

