-- ==== Sys2Proof/Machine/Tlog40To7F.lean ====
section
/-! DEFINITION. The meanings of TLOG.40 to TLOG.7F (46_codes_40_7f.md, R364 to R427): each is the operation Evaluate of R135
with the code fixed, which is also the static variant of R145. -/

namespace Sys2Proof.Machine

/-- `TLOG.40` (R364). -/
def execTlog40 (s : State) : Host.Outcome State Fault Refusal := evaluateCode 0x40#8 s

/-- `TLOG.41` (R365). -/
def execTlog41 (s : State) : Host.Outcome State Fault Refusal := evaluateCode 0x41#8 s

/-- `TLOG.42` (R366). -/
def execTlog42 (s : State) : Host.Outcome State Fault Refusal := evaluateCode 0x42#8 s

/-- `TLOG.43` (R367). -/
def execTlog43 (s : State) : Host.Outcome State Fault Refusal := evaluateCode 0x43#8 s

/-- `TLOG.44` (R368). -/
def execTlog44 (s : State) : Host.Outcome State Fault Refusal := evaluateCode 0x44#8 s

/-- `TLOG.45` (R369). -/
def execTlog45 (s : State) : Host.Outcome State Fault Refusal := evaluateCode 0x45#8 s

/-- `TLOG.46` (R370). -/
def execTlog46 (s : State) : Host.Outcome State Fault Refusal := evaluateCode 0x46#8 s

/-- `TLOG.47` (R371). -/
def execTlog47 (s : State) : Host.Outcome State Fault Refusal := evaluateCode 0x47#8 s

/-- `TLOG.48` (R372). -/
def execTlog48 (s : State) : Host.Outcome State Fault Refusal := evaluateCode 0x48#8 s

/-- `TLOG.49` (R373). -/
def execTlog49 (s : State) : Host.Outcome State Fault Refusal := evaluateCode 0x49#8 s

/-- `TLOG.4A` (R374). -/
def execTlog4A (s : State) : Host.Outcome State Fault Refusal := evaluateCode 0x4A#8 s

/-- `TLOG.4B` (R375). -/
def execTlog4B (s : State) : Host.Outcome State Fault Refusal := evaluateCode 0x4B#8 s

/-- `TLOG.4C` (R376). -/
def execTlog4C (s : State) : Host.Outcome State Fault Refusal := evaluateCode 0x4C#8 s

/-- `TLOG.4D` (R377). -/
def execTlog4D (s : State) : Host.Outcome State Fault Refusal := evaluateCode 0x4D#8 s

/-- `TLOG.4E` (R378). -/
def execTlog4E (s : State) : Host.Outcome State Fault Refusal := evaluateCode 0x4E#8 s

/-- `TLOG.4F` (R379). -/
def execTlog4F (s : State) : Host.Outcome State Fault Refusal := evaluateCode 0x4F#8 s

/-- `TLOG.50` (R380). -/
def execTlog50 (s : State) : Host.Outcome State Fault Refusal := evaluateCode 0x50#8 s

/-- `TLOG.51` (R381). -/
def execTlog51 (s : State) : Host.Outcome State Fault Refusal := evaluateCode 0x51#8 s

/-- `TLOG.52` (R382). -/
def execTlog52 (s : State) : Host.Outcome State Fault Refusal := evaluateCode 0x52#8 s

/-- `TLOG.53` (R383). -/
def execTlog53 (s : State) : Host.Outcome State Fault Refusal := evaluateCode 0x53#8 s

/-- `TLOG.54` (R384). -/
def execTlog54 (s : State) : Host.Outcome State Fault Refusal := evaluateCode 0x54#8 s

/-- `TLOG.55` (R385): NOT C. -/
def execTlog55 (s : State) : Host.Outcome State Fault Refusal := evaluateCode 0x55#8 s

/-- `TLOG.56` (R386). -/
def execTlog56 (s : State) : Host.Outcome State Fault Refusal := evaluateCode 0x56#8 s

/-- `TLOG.57` (R387). -/
def execTlog57 (s : State) : Host.Outcome State Fault Refusal := evaluateCode 0x57#8 s

/-- `TLOG.58` (R388). -/
def execTlog58 (s : State) : Host.Outcome State Fault Refusal := evaluateCode 0x58#8 s

/-- `TLOG.59` (R389). -/
def execTlog59 (s : State) : Host.Outcome State Fault Refusal := evaluateCode 0x59#8 s

/-- `TLOG.5A` (R390): A XOR C. -/
def execTlog5A (s : State) : Host.Outcome State Fault Refusal := evaluateCode 0x5A#8 s

/-- `TLOG.5B` (R391). -/
def execTlog5B (s : State) : Host.Outcome State Fault Refusal := evaluateCode 0x5B#8 s

/-- `TLOG.5C` (R392). -/
def execTlog5C (s : State) : Host.Outcome State Fault Refusal := evaluateCode 0x5C#8 s

/-- `TLOG.5D` (R393). -/
def execTlog5D (s : State) : Host.Outcome State Fault Refusal := evaluateCode 0x5D#8 s

/-- `TLOG.5E` (R394). -/
def execTlog5E (s : State) : Host.Outcome State Fault Refusal := evaluateCode 0x5E#8 s

/-- `TLOG.5F` (R395): NOT (A AND C). -/
def execTlog5F (s : State) : Host.Outcome State Fault Refusal := evaluateCode 0x5F#8 s

/-- `TLOG.60` (R396). -/
def execTlog60 (s : State) : Host.Outcome State Fault Refusal := evaluateCode 0x60#8 s

/-- `TLOG.61` (R397). -/
def execTlog61 (s : State) : Host.Outcome State Fault Refusal := evaluateCode 0x61#8 s

/-- `TLOG.62` (R398). -/
def execTlog62 (s : State) : Host.Outcome State Fault Refusal := evaluateCode 0x62#8 s

/-- `TLOG.63` (R399). -/
def execTlog63 (s : State) : Host.Outcome State Fault Refusal := evaluateCode 0x63#8 s

/-- `TLOG.64` (R400). -/
def execTlog64 (s : State) : Host.Outcome State Fault Refusal := evaluateCode 0x64#8 s

/-- `TLOG.65` (R401). -/
def execTlog65 (s : State) : Host.Outcome State Fault Refusal := evaluateCode 0x65#8 s

/-- `TLOG.66` (R402): B XOR C. -/
def execTlog66 (s : State) : Host.Outcome State Fault Refusal := evaluateCode 0x66#8 s

/-- `TLOG.67` (R403). -/
def execTlog67 (s : State) : Host.Outcome State Fault Refusal := evaluateCode 0x67#8 s

/-- `TLOG.68` (R404): exactly two of A, B, C are 1. -/
def execTlog68 (s : State) : Host.Outcome State Fault Refusal := evaluateCode 0x68#8 s

/-- `TLOG.69` (R405): NOT (A XOR B XOR C). -/
def execTlog69 (s : State) : Host.Outcome State Fault Refusal := evaluateCode 0x69#8 s

/-- `TLOG.6A` (R406). -/
def execTlog6A (s : State) : Host.Outcome State Fault Refusal := evaluateCode 0x6A#8 s

/-- `TLOG.6B` (R407). -/
def execTlog6B (s : State) : Host.Outcome State Fault Refusal := evaluateCode 0x6B#8 s

/-- `TLOG.6C` (R408). -/
def execTlog6C (s : State) : Host.Outcome State Fault Refusal := evaluateCode 0x6C#8 s

/-- `TLOG.6D` (R409). -/
def execTlog6D (s : State) : Host.Outcome State Fault Refusal := evaluateCode 0x6D#8 s

/-- `TLOG.6E` (R410). -/
def execTlog6E (s : State) : Host.Outcome State Fault Refusal := evaluateCode 0x6E#8 s

/-- `TLOG.6F` (R411). -/
def execTlog6F (s : State) : Host.Outcome State Fault Refusal := evaluateCode 0x6F#8 s

/-- `TLOG.70` (R412). -/
def execTlog70 (s : State) : Host.Outcome State Fault Refusal := evaluateCode 0x70#8 s

/-- `TLOG.71` (R413). -/
def execTlog71 (s : State) : Host.Outcome State Fault Refusal := evaluateCode 0x71#8 s

/-- `TLOG.72` (R414). -/
def execTlog72 (s : State) : Host.Outcome State Fault Refusal := evaluateCode 0x72#8 s

/-- `TLOG.73` (R415). -/
def execTlog73 (s : State) : Host.Outcome State Fault Refusal := evaluateCode 0x73#8 s

/-- `TLOG.74` (R416). -/
def execTlog74 (s : State) : Host.Outcome State Fault Refusal := evaluateCode 0x74#8 s

/-- `TLOG.75` (R417). -/
def execTlog75 (s : State) : Host.Outcome State Fault Refusal := evaluateCode 0x75#8 s

/-- `TLOG.76` (R418). -/
def execTlog76 (s : State) : Host.Outcome State Fault Refusal := evaluateCode 0x76#8 s

/-- `TLOG.77` (R419): NOT (B AND C). -/
def execTlog77 (s : State) : Host.Outcome State Fault Refusal := evaluateCode 0x77#8 s

/-- `TLOG.78` (R420). -/
def execTlog78 (s : State) : Host.Outcome State Fault Refusal := evaluateCode 0x78#8 s

/-- `TLOG.79` (R421). -/
def execTlog79 (s : State) : Host.Outcome State Fault Refusal := evaluateCode 0x79#8 s

/-- `TLOG.7A` (R422). -/
def execTlog7A (s : State) : Host.Outcome State Fault Refusal := evaluateCode 0x7A#8 s

/-- `TLOG.7B` (R423). -/
def execTlog7B (s : State) : Host.Outcome State Fault Refusal := evaluateCode 0x7B#8 s

/-- `TLOG.7C` (R424). -/
def execTlog7C (s : State) : Host.Outcome State Fault Refusal := evaluateCode 0x7C#8 s

/-- `TLOG.7D` (R425). -/
def execTlog7D (s : State) : Host.Outcome State Fault Refusal := evaluateCode 0x7D#8 s

/-- `TLOG.7E` (R426): not all three equal. -/
def execTlog7E (s : State) : Host.Outcome State Fault Refusal := evaluateCode 0x7E#8 s

/-- `TLOG.7F` (R427): NOT (A AND B AND C). -/
def execTlog7F (s : State) : Host.Outcome State Fault Refusal := evaluateCode 0x7F#8 s

end Sys2Proof.Machine
end

