-- ==== Sys2Proof/Machine/Tlog80ToBF.lean ====
section
/-! DEFINITION. The meanings of TLOG.80 to TLOG.BF (47_codes_80_bf.md, R428 to R491): each is the operation Evaluate of R135
with the code fixed, which is also the static variant of R145. -/

namespace Sys2Proof.Machine

/-- `TLOG.80` (R428): A AND B AND C. -/
def execTlog80 (s : State) : Host.Outcome State Fault Refusal := evaluateCode 0x80#8 s

/-- `TLOG.81` (R429): all three equal. -/
def execTlog81 (s : State) : Host.Outcome State Fault Refusal := evaluateCode 0x81#8 s

/-- `TLOG.82` (R430). -/
def execTlog82 (s : State) : Host.Outcome State Fault Refusal := evaluateCode 0x82#8 s

/-- `TLOG.83` (R431). -/
def execTlog83 (s : State) : Host.Outcome State Fault Refusal := evaluateCode 0x83#8 s

/-- `TLOG.84` (R432). -/
def execTlog84 (s : State) : Host.Outcome State Fault Refusal := evaluateCode 0x84#8 s

/-- `TLOG.85` (R433). -/
def execTlog85 (s : State) : Host.Outcome State Fault Refusal := evaluateCode 0x85#8 s

/-- `TLOG.86` (R434). -/
def execTlog86 (s : State) : Host.Outcome State Fault Refusal := evaluateCode 0x86#8 s

/-- `TLOG.87` (R435). -/
def execTlog87 (s : State) : Host.Outcome State Fault Refusal := evaluateCode 0x87#8 s

/-- `TLOG.88` (R436): B AND C. -/
def execTlog88 (s : State) : Host.Outcome State Fault Refusal := evaluateCode 0x88#8 s

/-- `TLOG.89` (R437). -/
def execTlog89 (s : State) : Host.Outcome State Fault Refusal := evaluateCode 0x89#8 s

/-- `TLOG.8A` (R438). -/
def execTlog8A (s : State) : Host.Outcome State Fault Refusal := evaluateCode 0x8A#8 s

/-- `TLOG.8B` (R439). -/
def execTlog8B (s : State) : Host.Outcome State Fault Refusal := evaluateCode 0x8B#8 s

/-- `TLOG.8C` (R440). -/
def execTlog8C (s : State) : Host.Outcome State Fault Refusal := evaluateCode 0x8C#8 s

/-- `TLOG.8D` (R441). -/
def execTlog8D (s : State) : Host.Outcome State Fault Refusal := evaluateCode 0x8D#8 s

/-- `TLOG.8E` (R442). -/
def execTlog8E (s : State) : Host.Outcome State Fault Refusal := evaluateCode 0x8E#8 s

/-- `TLOG.8F` (R443). -/
def execTlog8F (s : State) : Host.Outcome State Fault Refusal := evaluateCode 0x8F#8 s

/-- `TLOG.90` (R444). -/
def execTlog90 (s : State) : Host.Outcome State Fault Refusal := evaluateCode 0x90#8 s

/-- `TLOG.91` (R445). -/
def execTlog91 (s : State) : Host.Outcome State Fault Refusal := evaluateCode 0x91#8 s

/-- `TLOG.92` (R446). -/
def execTlog92 (s : State) : Host.Outcome State Fault Refusal := evaluateCode 0x92#8 s

/-- `TLOG.93` (R447). -/
def execTlog93 (s : State) : Host.Outcome State Fault Refusal := evaluateCode 0x93#8 s

/-- `TLOG.94` (R448). -/
def execTlog94 (s : State) : Host.Outcome State Fault Refusal := evaluateCode 0x94#8 s

/-- `TLOG.95` (R449). -/
def execTlog95 (s : State) : Host.Outcome State Fault Refusal := evaluateCode 0x95#8 s

/-- `TLOG.96` (R450): A XOR B XOR C (parity). -/
def execTlog96 (s : State) : Host.Outcome State Fault Refusal := evaluateCode 0x96#8 s

/-- `TLOG.97` (R451): at most one is 1, or all three are. -/
def execTlog97 (s : State) : Host.Outcome State Fault Refusal := evaluateCode 0x97#8 s

/-- `TLOG.98` (R452). -/
def execTlog98 (s : State) : Host.Outcome State Fault Refusal := evaluateCode 0x98#8 s

/-- `TLOG.99` (R453): NOT (B XOR C). -/
def execTlog99 (s : State) : Host.Outcome State Fault Refusal := evaluateCode 0x99#8 s

/-- `TLOG.9A` (R454). -/
def execTlog9A (s : State) : Host.Outcome State Fault Refusal := evaluateCode 0x9A#8 s

/-- `TLOG.9B` (R455). -/
def execTlog9B (s : State) : Host.Outcome State Fault Refusal := evaluateCode 0x9B#8 s

/-- `TLOG.9C` (R456). -/
def execTlog9C (s : State) : Host.Outcome State Fault Refusal := evaluateCode 0x9C#8 s

/-- `TLOG.9D` (R457). -/
def execTlog9D (s : State) : Host.Outcome State Fault Refusal := evaluateCode 0x9D#8 s

/-- `TLOG.9E` (R458). -/
def execTlog9E (s : State) : Host.Outcome State Fault Refusal := evaluateCode 0x9E#8 s

/-- `TLOG.9F` (R459). -/
def execTlog9F (s : State) : Host.Outcome State Fault Refusal := evaluateCode 0x9F#8 s

/-- `TLOG.A0` (R460): A AND C. -/
def execTlogA0 (s : State) : Host.Outcome State Fault Refusal := evaluateCode 0xA0#8 s

/-- `TLOG.A1` (R461). -/
def execTlogA1 (s : State) : Host.Outcome State Fault Refusal := evaluateCode 0xA1#8 s

/-- `TLOG.A2` (R462). -/
def execTlogA2 (s : State) : Host.Outcome State Fault Refusal := evaluateCode 0xA2#8 s

/-- `TLOG.A3` (R463). -/
def execTlogA3 (s : State) : Host.Outcome State Fault Refusal := evaluateCode 0xA3#8 s

/-- `TLOG.A4` (R464). -/
def execTlogA4 (s : State) : Host.Outcome State Fault Refusal := evaluateCode 0xA4#8 s

/-- `TLOG.A5` (R465): NOT (A XOR C). -/
def execTlogA5 (s : State) : Host.Outcome State Fault Refusal := evaluateCode 0xA5#8 s

/-- `TLOG.A6` (R466). -/
def execTlogA6 (s : State) : Host.Outcome State Fault Refusal := evaluateCode 0xA6#8 s

/-- `TLOG.A7` (R467). -/
def execTlogA7 (s : State) : Host.Outcome State Fault Refusal := evaluateCode 0xA7#8 s

/-- `TLOG.A8` (R468). -/
def execTlogA8 (s : State) : Host.Outcome State Fault Refusal := evaluateCode 0xA8#8 s

/-- `TLOG.A9` (R469). -/
def execTlogA9 (s : State) : Host.Outcome State Fault Refusal := evaluateCode 0xA9#8 s

/-- `TLOG.AA` (R470): C. -/
def execTlogAA (s : State) : Host.Outcome State Fault Refusal := evaluateCode 0xAA#8 s

/-- `TLOG.AB` (R471). -/
def execTlogAB (s : State) : Host.Outcome State Fault Refusal := evaluateCode 0xAB#8 s

/-- `TLOG.AC` (R472): A ? C : B. -/
def execTlogAC (s : State) : Host.Outcome State Fault Refusal := evaluateCode 0xAC#8 s

/-- `TLOG.AD` (R473). -/
def execTlogAD (s : State) : Host.Outcome State Fault Refusal := evaluateCode 0xAD#8 s

/-- `TLOG.AE` (R474). -/
def execTlogAE (s : State) : Host.Outcome State Fault Refusal := evaluateCode 0xAE#8 s

/-- `TLOG.AF` (R475). -/
def execTlogAF (s : State) : Host.Outcome State Fault Refusal := evaluateCode 0xAF#8 s

/-- `TLOG.B0` (R476). -/
def execTlogB0 (s : State) : Host.Outcome State Fault Refusal := evaluateCode 0xB0#8 s

/-- `TLOG.B1` (R477). -/
def execTlogB1 (s : State) : Host.Outcome State Fault Refusal := evaluateCode 0xB1#8 s

/-- `TLOG.B2` (R478). -/
def execTlogB2 (s : State) : Host.Outcome State Fault Refusal := evaluateCode 0xB2#8 s

/-- `TLOG.B3` (R479). -/
def execTlogB3 (s : State) : Host.Outcome State Fault Refusal := evaluateCode 0xB3#8 s

/-- `TLOG.B4` (R480). -/
def execTlogB4 (s : State) : Host.Outcome State Fault Refusal := evaluateCode 0xB4#8 s

/-- `TLOG.B5` (R481). -/
def execTlogB5 (s : State) : Host.Outcome State Fault Refusal := evaluateCode 0xB5#8 s

/-- `TLOG.B6` (R482). -/
def execTlogB6 (s : State) : Host.Outcome State Fault Refusal := evaluateCode 0xB6#8 s

/-- `TLOG.B7` (R483). -/
def execTlogB7 (s : State) : Host.Outcome State Fault Refusal := evaluateCode 0xB7#8 s

/-- `TLOG.B8` (R484): B ? C : A. -/
def execTlogB8 (s : State) : Host.Outcome State Fault Refusal := evaluateCode 0xB8#8 s

/-- `TLOG.B9` (R485). -/
def execTlogB9 (s : State) : Host.Outcome State Fault Refusal := evaluateCode 0xB9#8 s

/-- `TLOG.BA` (R486). -/
def execTlogBA (s : State) : Host.Outcome State Fault Refusal := evaluateCode 0xBA#8 s

/-- `TLOG.BB` (R487). -/
def execTlogBB (s : State) : Host.Outcome State Fault Refusal := evaluateCode 0xBB#8 s

/-- `TLOG.BC` (R488). -/
def execTlogBC (s : State) : Host.Outcome State Fault Refusal := evaluateCode 0xBC#8 s

/-- `TLOG.BD` (R489). -/
def execTlogBD (s : State) : Host.Outcome State Fault Refusal := evaluateCode 0xBD#8 s

/-- `TLOG.BE` (R490). -/
def execTlogBE (s : State) : Host.Outcome State Fault Refusal := evaluateCode 0xBE#8 s

/-- `TLOG.BF` (R491). -/
def execTlogBF (s : State) : Host.Outcome State Fault Refusal := evaluateCode 0xBF#8 s

end Sys2Proof.Machine
end

