-- ==== Sys2Proof/Machine/TlogC0ToFF.lean ====
section
/-! DEFINITION. The meanings of TLOG.C0 to TLOG.FF (48_codes_c0_ff.md, R492 to R555): each is the operation Evaluate of R135
with the code fixed, which is also the static variant of R145. -/

namespace Sys2Proof.Machine

/-- `TLOG.C0` (R492): A AND B. -/
def execTlogC0 (s : State) : Host.Outcome State Fault Refusal := evaluateCode 0xC0#8 s

/-- `TLOG.C1` (R493). -/
def execTlogC1 (s : State) : Host.Outcome State Fault Refusal := evaluateCode 0xC1#8 s

/-- `TLOG.C2` (R494). -/
def execTlogC2 (s : State) : Host.Outcome State Fault Refusal := evaluateCode 0xC2#8 s

/-- `TLOG.C3` (R495): NOT (A XOR B). -/
def execTlogC3 (s : State) : Host.Outcome State Fault Refusal := evaluateCode 0xC3#8 s

/-- `TLOG.C4` (R496). -/
def execTlogC4 (s : State) : Host.Outcome State Fault Refusal := evaluateCode 0xC4#8 s

/-- `TLOG.C5` (R497). -/
def execTlogC5 (s : State) : Host.Outcome State Fault Refusal := evaluateCode 0xC5#8 s

/-- `TLOG.C6` (R498). -/
def execTlogC6 (s : State) : Host.Outcome State Fault Refusal := evaluateCode 0xC6#8 s

/-- `TLOG.C7` (R499). -/
def execTlogC7 (s : State) : Host.Outcome State Fault Refusal := evaluateCode 0xC7#8 s

/-- `TLOG.C8` (R500). -/
def execTlogC8 (s : State) : Host.Outcome State Fault Refusal := evaluateCode 0xC8#8 s

/-- `TLOG.C9` (R501). -/
def execTlogC9 (s : State) : Host.Outcome State Fault Refusal := evaluateCode 0xC9#8 s

/-- `TLOG.CA` (R502): A ? B : C (select). -/
def execTlogCA (s : State) : Host.Outcome State Fault Refusal := evaluateCode 0xCA#8 s

/-- `TLOG.CB` (R503). -/
def execTlogCB (s : State) : Host.Outcome State Fault Refusal := evaluateCode 0xCB#8 s

/-- `TLOG.CC` (R504): B. -/
def execTlogCC (s : State) : Host.Outcome State Fault Refusal := evaluateCode 0xCC#8 s

/-- `TLOG.CD` (R505). -/
def execTlogCD (s : State) : Host.Outcome State Fault Refusal := evaluateCode 0xCD#8 s

/-- `TLOG.CE` (R506). -/
def execTlogCE (s : State) : Host.Outcome State Fault Refusal := evaluateCode 0xCE#8 s

/-- `TLOG.CF` (R507). -/
def execTlogCF (s : State) : Host.Outcome State Fault Refusal := evaluateCode 0xCF#8 s

/-- `TLOG.D0` (R508). -/
def execTlogD0 (s : State) : Host.Outcome State Fault Refusal := evaluateCode 0xD0#8 s

/-- `TLOG.D1` (R509). -/
def execTlogD1 (s : State) : Host.Outcome State Fault Refusal := evaluateCode 0xD1#8 s

/-- `TLOG.D2` (R510). -/
def execTlogD2 (s : State) : Host.Outcome State Fault Refusal := evaluateCode 0xD2#8 s

/-- `TLOG.D3` (R511). -/
def execTlogD3 (s : State) : Host.Outcome State Fault Refusal := evaluateCode 0xD3#8 s

/-- `TLOG.D4` (R512). -/
def execTlogD4 (s : State) : Host.Outcome State Fault Refusal := evaluateCode 0xD4#8 s

/-- `TLOG.D5` (R513). -/
def execTlogD5 (s : State) : Host.Outcome State Fault Refusal := evaluateCode 0xD5#8 s

/-- `TLOG.D6` (R514). -/
def execTlogD6 (s : State) : Host.Outcome State Fault Refusal := evaluateCode 0xD6#8 s

/-- `TLOG.D7` (R515). -/
def execTlogD7 (s : State) : Host.Outcome State Fault Refusal := evaluateCode 0xD7#8 s

/-- `TLOG.D8` (R516): C ? B : A. -/
def execTlogD8 (s : State) : Host.Outcome State Fault Refusal := evaluateCode 0xD8#8 s

/-- `TLOG.D9` (R517). -/
def execTlogD9 (s : State) : Host.Outcome State Fault Refusal := evaluateCode 0xD9#8 s

/-- `TLOG.DA` (R518). -/
def execTlogDA (s : State) : Host.Outcome State Fault Refusal := evaluateCode 0xDA#8 s

/-- `TLOG.DB` (R519). -/
def execTlogDB (s : State) : Host.Outcome State Fault Refusal := evaluateCode 0xDB#8 s

/-- `TLOG.DC` (R520). -/
def execTlogDC (s : State) : Host.Outcome State Fault Refusal := evaluateCode 0xDC#8 s

/-- `TLOG.DD` (R521). -/
def execTlogDD (s : State) : Host.Outcome State Fault Refusal := evaluateCode 0xDD#8 s

/-- `TLOG.DE` (R522). -/
def execTlogDE (s : State) : Host.Outcome State Fault Refusal := evaluateCode 0xDE#8 s

/-- `TLOG.DF` (R523). -/
def execTlogDF (s : State) : Host.Outcome State Fault Refusal := evaluateCode 0xDF#8 s

/-- `TLOG.E0` (R524). -/
def execTlogE0 (s : State) : Host.Outcome State Fault Refusal := evaluateCode 0xE0#8 s

/-- `TLOG.E1` (R525). -/
def execTlogE1 (s : State) : Host.Outcome State Fault Refusal := evaluateCode 0xE1#8 s

/-- `TLOG.E2` (R526): B ? A : C. -/
def execTlogE2 (s : State) : Host.Outcome State Fault Refusal := evaluateCode 0xE2#8 s

/-- `TLOG.E3` (R527). -/
def execTlogE3 (s : State) : Host.Outcome State Fault Refusal := evaluateCode 0xE3#8 s

/-- `TLOG.E4` (R528): C ? A : B. -/
def execTlogE4 (s : State) : Host.Outcome State Fault Refusal := evaluateCode 0xE4#8 s

/-- `TLOG.E5` (R529). -/
def execTlogE5 (s : State) : Host.Outcome State Fault Refusal := evaluateCode 0xE5#8 s

/-- `TLOG.E6` (R530). -/
def execTlogE6 (s : State) : Host.Outcome State Fault Refusal := evaluateCode 0xE6#8 s

/-- `TLOG.E7` (R531). -/
def execTlogE7 (s : State) : Host.Outcome State Fault Refusal := evaluateCode 0xE7#8 s

/-- `TLOG.E8` (R532): majority of A, B, C. -/
def execTlogE8 (s : State) : Host.Outcome State Fault Refusal := evaluateCode 0xE8#8 s

/-- `TLOG.E9` (R533): two or more are 1, or none is. -/
def execTlogE9 (s : State) : Host.Outcome State Fault Refusal := evaluateCode 0xE9#8 s

/-- `TLOG.EA` (R534). -/
def execTlogEA (s : State) : Host.Outcome State Fault Refusal := evaluateCode 0xEA#8 s

/-- `TLOG.EB` (R535). -/
def execTlogEB (s : State) : Host.Outcome State Fault Refusal := evaluateCode 0xEB#8 s

/-- `TLOG.EC` (R536). -/
def execTlogEC (s : State) : Host.Outcome State Fault Refusal := evaluateCode 0xEC#8 s

/-- `TLOG.ED` (R537). -/
def execTlogED (s : State) : Host.Outcome State Fault Refusal := evaluateCode 0xED#8 s

/-- `TLOG.EE` (R538): B OR C. -/
def execTlogEE (s : State) : Host.Outcome State Fault Refusal := evaluateCode 0xEE#8 s

/-- `TLOG.EF` (R539). -/
def execTlogEF (s : State) : Host.Outcome State Fault Refusal := evaluateCode 0xEF#8 s

/-- `TLOG.F0` (R540): A. -/
def execTlogF0 (s : State) : Host.Outcome State Fault Refusal := evaluateCode 0xF0#8 s

/-- `TLOG.F1` (R541). -/
def execTlogF1 (s : State) : Host.Outcome State Fault Refusal := evaluateCode 0xF1#8 s

/-- `TLOG.F2` (R542). -/
def execTlogF2 (s : State) : Host.Outcome State Fault Refusal := evaluateCode 0xF2#8 s

/-- `TLOG.F3` (R543). -/
def execTlogF3 (s : State) : Host.Outcome State Fault Refusal := evaluateCode 0xF3#8 s

/-- `TLOG.F4` (R544). -/
def execTlogF4 (s : State) : Host.Outcome State Fault Refusal := evaluateCode 0xF4#8 s

/-- `TLOG.F5` (R545). -/
def execTlogF5 (s : State) : Host.Outcome State Fault Refusal := evaluateCode 0xF5#8 s

/-- `TLOG.F6` (R546). -/
def execTlogF6 (s : State) : Host.Outcome State Fault Refusal := evaluateCode 0xF6#8 s

/-- `TLOG.F7` (R547). -/
def execTlogF7 (s : State) : Host.Outcome State Fault Refusal := evaluateCode 0xF7#8 s

/-- `TLOG.F8` (R548). -/
def execTlogF8 (s : State) : Host.Outcome State Fault Refusal := evaluateCode 0xF8#8 s

/-- `TLOG.F9` (R549). -/
def execTlogF9 (s : State) : Host.Outcome State Fault Refusal := evaluateCode 0xF9#8 s

/-- `TLOG.FA` (R550): A OR C. -/
def execTlogFA (s : State) : Host.Outcome State Fault Refusal := evaluateCode 0xFA#8 s

/-- `TLOG.FB` (R551). -/
def execTlogFB (s : State) : Host.Outcome State Fault Refusal := evaluateCode 0xFB#8 s

/-- `TLOG.FC` (R552): A OR B. -/
def execTlogFC (s : State) : Host.Outcome State Fault Refusal := evaluateCode 0xFC#8 s

/-- `TLOG.FD` (R553). -/
def execTlogFD (s : State) : Host.Outcome State Fault Refusal := evaluateCode 0xFD#8 s

/-- `TLOG.FE` (R554): A OR B OR C. -/
def execTlogFE (s : State) : Host.Outcome State Fault Refusal := evaluateCode 0xFE#8 s

/-- `TLOG.FF` (R555): constant 1. -/
def execTlogFF (s : State) : Host.Outcome State Fault Refusal := evaluateCode 0xFF#8 s

end Sys2Proof.Machine
end

