-- ==== Sys2Proof/Machine/Dispatch.lean ====
section
/-! DEFINITION. What each instruction does: one arm per constructor, each one call of its meaning. -/

namespace Sys2Proof.Machine

/-- The effect of an instruction. -/
def exec (i : Instr) (s : State) : Host.Outcome State Fault Refusal :=
  match i with
  | .tlog00 => Sys2Proof.Machine.execTlog00 s
  | .tlog01 => Sys2Proof.Machine.execTlog01 s
  | .tlog02 => Sys2Proof.Machine.execTlog02 s
  | .tlog03 => Sys2Proof.Machine.execTlog03 s
  | .tlog04 => Sys2Proof.Machine.execTlog04 s
  | .tlog05 => Sys2Proof.Machine.execTlog05 s
  | .tlog06 => Sys2Proof.Machine.execTlog06 s
  | .tlog07 => Sys2Proof.Machine.execTlog07 s
  | .tlog08 => Sys2Proof.Machine.execTlog08 s
  | .tlog09 => Sys2Proof.Machine.execTlog09 s
  | .tlog0A => Sys2Proof.Machine.execTlog0A s
  | .tlog0B => Sys2Proof.Machine.execTlog0B s
  | .tlog0C => Sys2Proof.Machine.execTlog0C s
  | .tlog0D => Sys2Proof.Machine.execTlog0D s
  | .tlog0E => Sys2Proof.Machine.execTlog0E s
  | .tlog0F => Sys2Proof.Machine.execTlog0F s
  | .tlog10 => Sys2Proof.Machine.execTlog10 s
  | .tlog11 => Sys2Proof.Machine.execTlog11 s
  | .tlog12 => Sys2Proof.Machine.execTlog12 s
  | .tlog13 => Sys2Proof.Machine.execTlog13 s
  | .tlog14 => Sys2Proof.Machine.execTlog14 s
  | .tlog15 => Sys2Proof.Machine.execTlog15 s
  | .tlog16 => Sys2Proof.Machine.execTlog16 s
  | .tlog17 => Sys2Proof.Machine.execTlog17 s
  | .tlog18 => Sys2Proof.Machine.execTlog18 s
  | .tlog19 => Sys2Proof.Machine.execTlog19 s
  | .tlog1A => Sys2Proof.Machine.execTlog1A s
  | .tlog1B => Sys2Proof.Machine.execTlog1B s
  | .tlog1C => Sys2Proof.Machine.execTlog1C s
  | .tlog1D => Sys2Proof.Machine.execTlog1D s
  | .tlog1E => Sys2Proof.Machine.execTlog1E s
  | .tlog1F => Sys2Proof.Machine.execTlog1F s
  | .tlog20 => Sys2Proof.Machine.execTlog20 s
  | .tlog21 => Sys2Proof.Machine.execTlog21 s
  | .tlog22 => Sys2Proof.Machine.execTlog22 s
  | .tlog23 => Sys2Proof.Machine.execTlog23 s
  | .tlog24 => Sys2Proof.Machine.execTlog24 s
  | .tlog25 => Sys2Proof.Machine.execTlog25 s
  | .tlog26 => Sys2Proof.Machine.execTlog26 s
  | .tlog27 => Sys2Proof.Machine.execTlog27 s
  | .tlog28 => Sys2Proof.Machine.execTlog28 s
  | .tlog29 => Sys2Proof.Machine.execTlog29 s
  | .tlog2A => Sys2Proof.Machine.execTlog2A s
  | .tlog2B => Sys2Proof.Machine.execTlog2B s
  | .tlog2C => Sys2Proof.Machine.execTlog2C s
  | .tlog2D => Sys2Proof.Machine.execTlog2D s
  | .tlog2E => Sys2Proof.Machine.execTlog2E s
  | .tlog2F => Sys2Proof.Machine.execTlog2F s
  | .tlog30 => Sys2Proof.Machine.execTlog30 s
  | .tlog31 => Sys2Proof.Machine.execTlog31 s
  | .tlog32 => Sys2Proof.Machine.execTlog32 s
  | .tlog33 => Sys2Proof.Machine.execTlog33 s
  | .tlog34 => Sys2Proof.Machine.execTlog34 s
  | .tlog35 => Sys2Proof.Machine.execTlog35 s
  | .tlog36 => Sys2Proof.Machine.execTlog36 s
  | .tlog37 => Sys2Proof.Machine.execTlog37 s
  | .tlog38 => Sys2Proof.Machine.execTlog38 s
  | .tlog39 => Sys2Proof.Machine.execTlog39 s
  | .tlog3A => Sys2Proof.Machine.execTlog3A s
  | .tlog3B => Sys2Proof.Machine.execTlog3B s
  | .tlog3C => Sys2Proof.Machine.execTlog3C s
  | .tlog3D => Sys2Proof.Machine.execTlog3D s
  | .tlog3E => Sys2Proof.Machine.execTlog3E s
  | .tlog3F => Sys2Proof.Machine.execTlog3F s
  | .tlog40 => Sys2Proof.Machine.execTlog40 s
  | .tlog41 => Sys2Proof.Machine.execTlog41 s
  | .tlog42 => Sys2Proof.Machine.execTlog42 s
  | .tlog43 => Sys2Proof.Machine.execTlog43 s
  | .tlog44 => Sys2Proof.Machine.execTlog44 s
  | .tlog45 => Sys2Proof.Machine.execTlog45 s
  | .tlog46 => Sys2Proof.Machine.execTlog46 s
  | .tlog47 => Sys2Proof.Machine.execTlog47 s
  | .tlog48 => Sys2Proof.Machine.execTlog48 s
  | .tlog49 => Sys2Proof.Machine.execTlog49 s
  | .tlog4A => Sys2Proof.Machine.execTlog4A s
  | .tlog4B => Sys2Proof.Machine.execTlog4B s
  | .tlog4C => Sys2Proof.Machine.execTlog4C s
  | .tlog4D => Sys2Proof.Machine.execTlog4D s
  | .tlog4E => Sys2Proof.Machine.execTlog4E s
  | .tlog4F => Sys2Proof.Machine.execTlog4F s
  | .tlog50 => Sys2Proof.Machine.execTlog50 s
  | .tlog51 => Sys2Proof.Machine.execTlog51 s
  | .tlog52 => Sys2Proof.Machine.execTlog52 s
  | .tlog53 => Sys2Proof.Machine.execTlog53 s
  | .tlog54 => Sys2Proof.Machine.execTlog54 s
  | .tlog55 => Sys2Proof.Machine.execTlog55 s
  | .tlog56 => Sys2Proof.Machine.execTlog56 s
  | .tlog57 => Sys2Proof.Machine.execTlog57 s
  | .tlog58 => Sys2Proof.Machine.execTlog58 s
  | .tlog59 => Sys2Proof.Machine.execTlog59 s
  | .tlog5A => Sys2Proof.Machine.execTlog5A s
  | .tlog5B => Sys2Proof.Machine.execTlog5B s
  | .tlog5C => Sys2Proof.Machine.execTlog5C s
  | .tlog5D => Sys2Proof.Machine.execTlog5D s
  | .tlog5E => Sys2Proof.Machine.execTlog5E s
  | .tlog5F => Sys2Proof.Machine.execTlog5F s
  | .tlog60 => Sys2Proof.Machine.execTlog60 s
  | .tlog61 => Sys2Proof.Machine.execTlog61 s
  | .tlog62 => Sys2Proof.Machine.execTlog62 s
  | .tlog63 => Sys2Proof.Machine.execTlog63 s
  | .tlog64 => Sys2Proof.Machine.execTlog64 s
  | .tlog65 => Sys2Proof.Machine.execTlog65 s
  | .tlog66 => Sys2Proof.Machine.execTlog66 s
  | .tlog67 => Sys2Proof.Machine.execTlog67 s
  | .tlog68 => Sys2Proof.Machine.execTlog68 s
  | .tlog69 => Sys2Proof.Machine.execTlog69 s
  | .tlog6A => Sys2Proof.Machine.execTlog6A s
  | .tlog6B => Sys2Proof.Machine.execTlog6B s
  | .tlog6C => Sys2Proof.Machine.execTlog6C s
  | .tlog6D => Sys2Proof.Machine.execTlog6D s
  | .tlog6E => Sys2Proof.Machine.execTlog6E s
  | .tlog6F => Sys2Proof.Machine.execTlog6F s
  | .tlog70 => Sys2Proof.Machine.execTlog70 s
  | .tlog71 => Sys2Proof.Machine.execTlog71 s
  | .tlog72 => Sys2Proof.Machine.execTlog72 s
  | .tlog73 => Sys2Proof.Machine.execTlog73 s
  | .tlog74 => Sys2Proof.Machine.execTlog74 s
  | .tlog75 => Sys2Proof.Machine.execTlog75 s
  | .tlog76 => Sys2Proof.Machine.execTlog76 s
  | .tlog77 => Sys2Proof.Machine.execTlog77 s
  | .tlog78 => Sys2Proof.Machine.execTlog78 s
  | .tlog79 => Sys2Proof.Machine.execTlog79 s
  | .tlog7A => Sys2Proof.Machine.execTlog7A s
  | .tlog7B => Sys2Proof.Machine.execTlog7B s
  | .tlog7C => Sys2Proof.Machine.execTlog7C s
  | .tlog7D => Sys2Proof.Machine.execTlog7D s
  | .tlog7E => Sys2Proof.Machine.execTlog7E s
  | .tlog7F => Sys2Proof.Machine.execTlog7F s
  | .tlog80 => Sys2Proof.Machine.execTlog80 s
  | .tlog81 => Sys2Proof.Machine.execTlog81 s
  | .tlog82 => Sys2Proof.Machine.execTlog82 s
  | .tlog83 => Sys2Proof.Machine.execTlog83 s
  | .tlog84 => Sys2Proof.Machine.execTlog84 s
  | .tlog85 => Sys2Proof.Machine.execTlog85 s
  | .tlog86 => Sys2Proof.Machine.execTlog86 s
  | .tlog87 => Sys2Proof.Machine.execTlog87 s
  | .tlog88 => Sys2Proof.Machine.execTlog88 s
  | .tlog89 => Sys2Proof.Machine.execTlog89 s
  | .tlog8A => Sys2Proof.Machine.execTlog8A s
  | .tlog8B => Sys2Proof.Machine.execTlog8B s
  | .tlog8C => Sys2Proof.Machine.execTlog8C s
  | .tlog8D => Sys2Proof.Machine.execTlog8D s
  | .tlog8E => Sys2Proof.Machine.execTlog8E s
  | .tlog8F => Sys2Proof.Machine.execTlog8F s
  | .tlog90 => Sys2Proof.Machine.execTlog90 s
  | .tlog91 => Sys2Proof.Machine.execTlog91 s
  | .tlog92 => Sys2Proof.Machine.execTlog92 s
  | .tlog93 => Sys2Proof.Machine.execTlog93 s
  | .tlog94 => Sys2Proof.Machine.execTlog94 s
  | .tlog95 => Sys2Proof.Machine.execTlog95 s
  | .tlog96 => Sys2Proof.Machine.execTlog96 s
  | .tlog97 => Sys2Proof.Machine.execTlog97 s
  | .tlog98 => Sys2Proof.Machine.execTlog98 s
  | .tlog99 => Sys2Proof.Machine.execTlog99 s
  | .tlog9A => Sys2Proof.Machine.execTlog9A s
  | .tlog9B => Sys2Proof.Machine.execTlog9B s
  | .tlog9C => Sys2Proof.Machine.execTlog9C s
  | .tlog9D => Sys2Proof.Machine.execTlog9D s
  | .tlog9E => Sys2Proof.Machine.execTlog9E s
  | .tlog9F => Sys2Proof.Machine.execTlog9F s
  | .tlogA0 => Sys2Proof.Machine.execTlogA0 s
  | .tlogA1 => Sys2Proof.Machine.execTlogA1 s
  | .tlogA2 => Sys2Proof.Machine.execTlogA2 s
  | .tlogA3 => Sys2Proof.Machine.execTlogA3 s
  | .tlogA4 => Sys2Proof.Machine.execTlogA4 s
  | .tlogA5 => Sys2Proof.Machine.execTlogA5 s
  | .tlogA6 => Sys2Proof.Machine.execTlogA6 s
  | .tlogA7 => Sys2Proof.Machine.execTlogA7 s
  | .tlogA8 => Sys2Proof.Machine.execTlogA8 s
  | .tlogA9 => Sys2Proof.Machine.execTlogA9 s
  | .tlogAA => Sys2Proof.Machine.execTlogAA s
  | .tlogAB => Sys2Proof.Machine.execTlogAB s
  | .tlogAC => Sys2Proof.Machine.execTlogAC s
  | .tlogAD => Sys2Proof.Machine.execTlogAD s
  | .tlogAE => Sys2Proof.Machine.execTlogAE s
  | .tlogAF => Sys2Proof.Machine.execTlogAF s
  | .tlogB0 => Sys2Proof.Machine.execTlogB0 s
  | .tlogB1 => Sys2Proof.Machine.execTlogB1 s
  | .tlogB2 => Sys2Proof.Machine.execTlogB2 s
  | .tlogB3 => Sys2Proof.Machine.execTlogB3 s
  | .tlogB4 => Sys2Proof.Machine.execTlogB4 s
  | .tlogB5 => Sys2Proof.Machine.execTlogB5 s
  | .tlogB6 => Sys2Proof.Machine.execTlogB6 s
  | .tlogB7 => Sys2Proof.Machine.execTlogB7 s
  | .tlogB8 => Sys2Proof.Machine.execTlogB8 s
  | .tlogB9 => Sys2Proof.Machine.execTlogB9 s
  | .tlogBA => Sys2Proof.Machine.execTlogBA s
  | .tlogBB => Sys2Proof.Machine.execTlogBB s
  | .tlogBC => Sys2Proof.Machine.execTlogBC s
  | .tlogBD => Sys2Proof.Machine.execTlogBD s
  | .tlogBE => Sys2Proof.Machine.execTlogBE s
  | .tlogBF => Sys2Proof.Machine.execTlogBF s
  | .tlogC0 => Sys2Proof.Machine.execTlogC0 s
  | .tlogC1 => Sys2Proof.Machine.execTlogC1 s
  | .tlogC2 => Sys2Proof.Machine.execTlogC2 s
  | .tlogC3 => Sys2Proof.Machine.execTlogC3 s
  | .tlogC4 => Sys2Proof.Machine.execTlogC4 s
  | .tlogC5 => Sys2Proof.Machine.execTlogC5 s
  | .tlogC6 => Sys2Proof.Machine.execTlogC6 s
  | .tlogC7 => Sys2Proof.Machine.execTlogC7 s
  | .tlogC8 => Sys2Proof.Machine.execTlogC8 s
  | .tlogC9 => Sys2Proof.Machine.execTlogC9 s
  | .tlogCA => Sys2Proof.Machine.execTlogCA s
  | .tlogCB => Sys2Proof.Machine.execTlogCB s
  | .tlogCC => Sys2Proof.Machine.execTlogCC s
  | .tlogCD => Sys2Proof.Machine.execTlogCD s
  | .tlogCE => Sys2Proof.Machine.execTlogCE s
  | .tlogCF => Sys2Proof.Machine.execTlogCF s
  | .tlogD0 => Sys2Proof.Machine.execTlogD0 s
  | .tlogD1 => Sys2Proof.Machine.execTlogD1 s
  | .tlogD2 => Sys2Proof.Machine.execTlogD2 s
  | .tlogD3 => Sys2Proof.Machine.execTlogD3 s
  | .tlogD4 => Sys2Proof.Machine.execTlogD4 s
  | .tlogD5 => Sys2Proof.Machine.execTlogD5 s
  | .tlogD6 => Sys2Proof.Machine.execTlogD6 s
  | .tlogD7 => Sys2Proof.Machine.execTlogD7 s
  | .tlogD8 => Sys2Proof.Machine.execTlogD8 s
  | .tlogD9 => Sys2Proof.Machine.execTlogD9 s
  | .tlogDA => Sys2Proof.Machine.execTlogDA s
  | .tlogDB => Sys2Proof.Machine.execTlogDB s
  | .tlogDC => Sys2Proof.Machine.execTlogDC s
  | .tlogDD => Sys2Proof.Machine.execTlogDD s
  | .tlogDE => Sys2Proof.Machine.execTlogDE s
  | .tlogDF => Sys2Proof.Machine.execTlogDF s
  | .tlogE0 => Sys2Proof.Machine.execTlogE0 s
  | .tlogE1 => Sys2Proof.Machine.execTlogE1 s
  | .tlogE2 => Sys2Proof.Machine.execTlogE2 s
  | .tlogE3 => Sys2Proof.Machine.execTlogE3 s
  | .tlogE4 => Sys2Proof.Machine.execTlogE4 s
  | .tlogE5 => Sys2Proof.Machine.execTlogE5 s
  | .tlogE6 => Sys2Proof.Machine.execTlogE6 s
  | .tlogE7 => Sys2Proof.Machine.execTlogE7 s
  | .tlogE8 => Sys2Proof.Machine.execTlogE8 s
  | .tlogE9 => Sys2Proof.Machine.execTlogE9 s
  | .tlogEA => Sys2Proof.Machine.execTlogEA s
  | .tlogEB => Sys2Proof.Machine.execTlogEB s
  | .tlogEC => Sys2Proof.Machine.execTlogEC s
  | .tlogED => Sys2Proof.Machine.execTlogED s
  | .tlogEE => Sys2Proof.Machine.execTlogEE s
  | .tlogEF => Sys2Proof.Machine.execTlogEF s
  | .tlogF0 => Sys2Proof.Machine.execTlogF0 s
  | .tlogF1 => Sys2Proof.Machine.execTlogF1 s
  | .tlogF2 => Sys2Proof.Machine.execTlogF2 s
  | .tlogF3 => Sys2Proof.Machine.execTlogF3 s
  | .tlogF4 => Sys2Proof.Machine.execTlogF4 s
  | .tlogF5 => Sys2Proof.Machine.execTlogF5 s
  | .tlogF6 => Sys2Proof.Machine.execTlogF6 s
  | .tlogF7 => Sys2Proof.Machine.execTlogF7 s
  | .tlogF8 => Sys2Proof.Machine.execTlogF8 s
  | .tlogF9 => Sys2Proof.Machine.execTlogF9 s
  | .tlogFA => Sys2Proof.Machine.execTlogFA s
  | .tlogFB => Sys2Proof.Machine.execTlogFB s
  | .tlogFC => Sys2Proof.Machine.execTlogFC s
  | .tlogFD => Sys2Proof.Machine.execTlogFD s
  | .tlogFE => Sys2Proof.Machine.execTlogFE s
  | .tlogFF => Sys2Proof.Machine.execTlogFF s
  | .rentryAbc rep => Sys2Proof.Machine.execRentryAbc rep s
  | .rentryBac rep => Sys2Proof.Machine.execRentryBac rep s
  | .rentryAcb rep => Sys2Proof.Machine.execRentryAcb rep s
  | .rentryCba rep => Sys2Proof.Machine.execRentryCba rep s
  | .rentryCab rep => Sys2Proof.Machine.execRentryCab rep s
  | .rentryBca rep => Sys2Proof.Machine.execRentryBca rep s
  | .fnodeA => Sys2Proof.Machine.execFnodeA s
  | .fnodeB => Sys2Proof.Machine.execFnodeB s
  | .fnodeC => Sys2Proof.Machine.execFnodeC s
  | .fnodeOnes => Sys2Proof.Machine.execFnodeOnes s
  | .fnodeNot f => Sys2Proof.Machine.execFnodeNot f s
  | .fnodeAnd f g => Sys2Proof.Machine.execFnodeAnd f g s
  | .fnodeOr f g => Sys2Proof.Machine.execFnodeOr f g s
  | .fnodeXor f g => Sys2Proof.Machine.execFnodeXor f g s

end Sys2Proof.Machine
end

