-- ==== Sys2Proof/Machine/Step.lean ====
section
/-! DEFINITION. One step: fetch what is presented, decode it, and run it (R135, R197). -/

namespace Sys2Proof.Machine

/-- One step of an instance. -/
def step (s : State) : Host.Outcome State Fault Refusal :=
  match fetch s with
  | .ok i => exec i s
  | .error e => reject e

/-- The state with a row's bits stored where the next step fetches (log 5, log 8, log 14). Bits that `tableWord` reads in no format,
and a selector that does not fit port `sel`, leave it as it is. -/
def State.withFetchWord (s : State) (nbits w : Nat) : State :=
  match tableWord nbits w with
  | some e => s.store e
  | none => s

end Sys2Proof.Machine
end

