-- ==== Sys2Proof/Machine/Build.lean ====
section
/-! DEFINITION. How an instance comes to be (R192): check the configuration, build the table, publish it. -/

namespace Sys2Proof.Machine

/-- Whether the library's codes are strictly rising, so that a set of codes has one library form (log 9). -/
def codesRising : List (Code × Formula) → Bool
  | [] => true
  | [_] => true
  | p :: q :: rest => decide (p.1.toNat < q.1.toNat) && codesRising (q :: rest)

/-- The first code whose formula computes another code (R80, U4). -/
def firstWrongFormula (library : List (Code × Formula)) : Option Code :=
  (library.find? fun p => tt p.2 != p.1).map Prod.fst

/-- An instance of a configuration, or why there is none: the constraints of R8 and R80 are refused, a Primary set that misses an
orbit is the fault IncompleteCoverage (R124, R163), and only a complete table is published (R192). The order of the checks before
the build is DESIGN CHOICE, safe (log 9). -/
def instantiate (w selw : Nat) (cfg : Config) : Host.Outcome State Fault Refusal :=
  if w = 0 then .refused .zeroWidth
  else if selw < 8 then .refused (.narrowSelector selw)
  else if !codesRising cfg.library then .refused .malformedLibrary
  else
    match firstWrongFormula cfg.library with
    | some k => .refused (.wrongFormula k)
    | none =>
      match buildReductionTable cfg.primary with
      | .error k => .fault (.incompleteCoverage k)
      | .ok es => .next ⟨w, selw, Block.initial cfg (Memory.image (es.map entryWord))⟩

end Sys2Proof.Machine
end

