-- ==== Sys2Proof/Machine/Flags.lean ====
section
/-! DEFINITION. The one status output. TLD has no flags (R20, R143); `err` is an output of one evaluation. -/

namespace Sys2Proof.Machine

/-- The output `err` that belongs to a selector: 1 exactly when it is above 255 (R20, R162). -/
def errOf {selw : Nat} (sel : BitVec selw) : Bool := selectorInvalid sel.toNat

end Sys2Proof.Machine
end

