-- ==== Sys2Proof/Machine/Ports.lean ====
section
/-! DEFINITION. The output ports as the host sees them in one evaluation (R16), a faulting one included. -/

namespace Sys2Proof.Machine

/-- The output ports. -/
structure Outputs (w : Nat) where
  /-- port `err` -/
  err : Bool
  /-- port `r`, meaningful only when `err` is 0 (R16) -/
  r : BitVec w
  deriving DecidableEq, Repr

/-- The output ports while a selector and three operands stand on the input ports of an instance (R16, R149, R162): `err` and the
result, or `err = 1` and a free value (U1, log 4). Where the table holds no usable entry there is no answer (U8). -/
def outputs {w selw : Nat} (s : Block w selw) (sel : BitVec selw) (operands : Triple (BitVec w)) : Option (Outputs w) :=
  if errOf sel then
    some ⟨true, Config.resultWhileErr w sel.toNat operands.a.toNat operands.b.toNat operands.c.toNat⟩
  else
    match evaluate s.cfg s.rt (BitVec.ofNat 8 sel.toNat) operands with
    | .ok r => some ⟨false, r⟩
    | .error _ => none

/-- What a step of an instance answers when the host first presents a selector and three operands (R17). -/
def evaluationOf (s : State) (sel : BitVec s.selw) (operands : Triple (BitVec s.w)) : Host.Outcome State Fault Refusal :=
  step (s.present sel operands)

end Sys2Proof.Machine
end

