-- ==== Sys2Proof/Safety.lean ====
section
/-! DEFINITION. The instances that are instances of TLD, and what a safe outcome is, in the terms the statements use. -/

namespace Sys2Proof.Machine

/-- A valid configuration (R8): the library in its one form, every formula computing its code (R80). -/
abbrev Config.Valid (cfg : Config) : Prop := codesRising cfg.library = true ∧ firstWrongFormula cfg.library = none

/-- An instance of TLD: the parameters meet R8 and the memory is the built table of `PRIMARY` (R129, R192). -/
abbrev Block.Valid {w selw : Nat} (s : Block w selw) : Prop :=
  1 ≤ w ∧ 8 ≤ selw ∧ Config.Valid s.cfg ∧ publishedTable s.cfg.primary = some s.rt

/-- `Block.Valid` of a state. -/
abbrev State.Valid (s : State) : Prop := s.block.Valid

/-- A safe outcome: the step gave a next state, or the one fault an evaluation can raise (R144, R161). -/
def SafeOutcome (o : Host.Outcome State Fault Refusal) : Prop :=
  match o with
  | .next _ => True
  | .fault (.invalidCode _) => True
  | .fault (.incompleteCoverage _) => False
  | .refused _ => False

end Sys2Proof.Machine
end

