-- ==== Sys2Proof/Certificates/Slice0/Obligations.lean ====
section
/-! DEFINITION. The statements for the provers. `⟨w, selw, s⟩` is the state whose instance is `s`; a statement about it holds for
every number of lanes and every selector width. -/

open Sys2Proof Sys2Proof.Machine

/-! ## Encodings -/

/-- Decoding an encoded instruction gives it back, whatever its operands (R49, R54, R57, R61). -/
def Obligations.DecodeReadsWhatEncodeWrites : Prop := ∀ i : Instr, decode (encode i) = .ok i

/-- What decodes to an instruction is that instruction's encoding: no bit of a selector or an entry word is dropped, and of a tag
string only tags after the formula's end are (R57). -/
def Obligations.DecodedBitsAreTheInstructionsOwn : Prop :=
  ∀ (e : Encoded) (i : Instr), decode e = .ok i →
    match e with
    | .cmd selector => encode i = .cmd selector
    | .rentry word => encode i = .rentry word
    | .fnode tags => ∃ own rest, encode i = .fnode own ∧ tags = own ++ rest

/-- A few words written out from the spec's encodings (R48, R54, R55, R57). -/
def Obligations.SampleWordsDecodeAsTheSpecSays : Prop :=
  decode (.cmd 0x1B) = .ok .tlog1B ∧ decode (.cmd 0xFF) = .ok .tlogFF ∧
    decode (.rentry 0b01010101100#11) = .ok (.rentryAcb 0xAC) ∧ decode (.rentry 0b10100001010#11) = .ok (.rentryBca 0x0A) ∧
    decode (.fnode [0b111#3, 0b000#3, 0b111#3, 0b001#3, 0b010#3]) = .ok (.fnodeXor .a (.xor .b .c)) ∧
    decode (.fnode [0b100#3, 0b011#3]) = .ok (.fnodeNot .ones)

/-- An entry word with `perm` 6 or 7 is refused by name, every other entry word is some row's encoding, and a step on it runs that row
(R55, R58). That an entry word can be presented on its own is the model's choice (log 5). -/
def Obligations.OnlyReservedEntryWordsAreRefused : Prop :=
  ∀ (s : State) (word : EntryWord), s.block.stimulus = .entry word →
    (6 ≤ word.toNat / 256 → step s = .refused (.reservedPermutation (word.toNat / 256))) ∧
      (word.toNat / 256 < 6 → ∃ i, encode i = .rentry word ∧ step s = exec i s)

/-- A tag string is refused exactly when it does not begin with a whole formula (R57). -/
def Obligations.OnlyUnfinishedTagStringsAreRefused : Prop :=
  ∀ tags : List Tag, decode (.fnode tags) = .error .truncatedFormula ↔ ∀ f rest, tags ≠ formulaTags f ++ rest

/-- A selector port of at least 8 bits carries every code row (R48, R61). -/
def Obligations.EveryRowFitsAnEightBitSelector : Prop :=
  ∀ (i : Instr) (selw : Nat), 8 ≤ selw → encodedFits selw (encode i) = true

/-! ## The step -/

/-- A step runs the instruction that what is presented decodes to, and adds nothing to it (R135, R197). -/
def Obligations.StepRunsTheDecodedInstruction : Prop :=
  ∀ (s : State) (i : Instr), decode s.block.encoded = .ok i → step s = exec i s

/-- A row's bits stored by `withFetchWord` are what the next step runs, if a selector fits its port; a number that does not fit changes
nothing. The place of the entry words and tag strings, and what such a number does, are the model's choices (log 5, log 8). -/
def Obligations.StoredRowRunsNext : Prop :=
  ∀ (s : State) (nbits w : Nat),
    (∀ i : Instr, decodeTableWord nbits w = some i → (nbits = 8 → w < 2 ^ s.selw) →
      step (s.withFetchWord nbits w) = exec i (s.withFetchWord nbits w)) ∧
      (nbits = 8 → 2 ^ s.selw ≤ w → s.withFetchWord nbits w = s)

/-- The InvalidCode fault (R137): a selector above 255 faults before anything else is done, with the selector as its value, and no
step faults otherwise. -/
def Obligations.SelectorAbove255FaultsAndNothingElse : Prop :=
  ∀ s : State,
    (s.block.stimulus = .command → 255 < s.block.sel.toNat → step s = .fault (.invalidCode s.block.sel.toNat)) ∧
      ∀ f, step s = .fault f →
        s.block.stimulus = .command ∧ 255 < s.block.sel.toNat ∧ 8 < s.selw ∧ f = .invalidCode s.block.sel.toNat

/-- With a selector of 8 bits no step faults (R49). -/
def Obligations.EightBitSelectorsNeverFault : Prop :=
  ∀ (s : State) (f : Fault), s.selw = 8 → step s ≠ .fault f

/-- An evaluation presented to an instance of TLD gives a result or the fault of its selector, and no refusal (R144, R165). -/
def Obligations.EvaluationsOfAnInstanceAreSafe : Prop :=
  ∀ s : State, s.Valid → s.block.stimulus = .command → SafeOutcome (step s)

/-! ## What the instructions do -/

/-- The core correctness property (R140): on every instance, for every code and all vectors, the evaluation presented with the code as
selector completes with the result `Ref` and `err = 0`, and so the ports show. -/
def Obligations.EvaluationIsTheReference : Prop :=
  ∀ (w selw : Nat) (s : Block w selw), s.Valid → ∀ (k : Code) (x : Triple (BitVec w)),
    outputs s (BitVec.ofNat selw k.toNat) x = some ⟨false, ref k x⟩ ∧
      ∃ t : Block w selw, evaluationOf ⟨w, selw, s⟩ (BitVec.ofNat selw k.toNat) x = .next ⟨w, selw, t⟩ ∧
        t.r = ref k x ∧ t.err = false

/-- The rows TLOG.00 to TLOG.FF (`tlog00` to `tlogFF`, the instructions encoded as a selector): on every instance each completes, its
result is `Ref` of its code on the three operands (R140), `err` is 0, and nothing else changes (R141). Nothing else includes
the stimulus, a field of the model's own (log 5). -/
def Obligations.EveryCodeRowCompletesWithTheReference : Prop :=
  ∀ (w selw : Nat) (s : Block w selw), s.Valid → ∀ (i : Instr) (k : Nat), encode i = .cmd k →
    exec i ⟨w, selw, s⟩ = .next ⟨w, selw, { s with r := ref (BitVec.ofNat 8 k) s.operands, err := false }⟩

/-- The same of one step of an instance (R135, R140, R141): the selector on port `sel`, when at most 255, is the code that is evaluated.
The stimulus, which keeps its value too, is the model's own (log 5). -/
def Obligations.StepEvaluatesTheSelector : Prop :=
  ∀ (w selw : Nat) (s : Block w selw), s.Valid → s.stimulus = .command → s.sel.toNat ≤ 255 →
    step ⟨w, selw, s⟩ = .next ⟨w, selw, { s with r := ref (BitVec.ofNat 8 s.sel.toNat) s.operands, err := false }⟩

/-- The frame of the rows TLOG.00 to TLOG.FF, on any block (R141): the configuration, the table with every word of it and the inputs are
unchanged, and `err` is 0. The stimulus among the inputs is the model's own (log 5). -/
def Obligations.CodeRowsChangeOnlyTheOutputs : Prop :=
  ∀ (w selw : Nat) (s t : Block w selw) (i : Instr) (k : Nat), encode i = .cmd k →
    exec i ⟨w, selw, s⟩ = .next ⟨w, selw, t⟩ →
      t.cfg = s.cfg ∧ t.rt = s.rt ∧ (∀ index, t.rt.read index = s.rt.read index) ∧ t.stimulus = s.stimulus ∧
        t.sel = s.sel ∧ t.operands = s.operands ∧ t.err = false

/-- The rows RENTRY.abc to RENTRY.bca complete on every block in which their representative has a formula: the result is that formula on
the operands in the order of the row's name (R93 to R98, R99, R139), `err` is 0 and nothing else changes; a representative without a
formula is refused (R58, U8). That an entry can be presented on its own is the model's choice (log 5). -/
def Obligations.EntryRowsSetTheMultiplexer : Prop :=
  ∀ (w selw : Nat) (s : Block w selw) (rep : Code),
    (∀ f, s.cfg.formula? rep = some f →
      exec (.rentryAbc rep) ⟨w, selw, s⟩ =
          .next ⟨w, selw, { s with r := eval f ⟨s.operands.a, s.operands.b, s.operands.c⟩, err := false }⟩ ∧
        exec (.rentryBac rep) ⟨w, selw, s⟩ =
          .next ⟨w, selw, { s with r := eval f ⟨s.operands.b, s.operands.a, s.operands.c⟩, err := false }⟩ ∧
        exec (.rentryAcb rep) ⟨w, selw, s⟩ =
          .next ⟨w, selw, { s with r := eval f ⟨s.operands.a, s.operands.c, s.operands.b⟩, err := false }⟩ ∧
        exec (.rentryCba rep) ⟨w, selw, s⟩ =
          .next ⟨w, selw, { s with r := eval f ⟨s.operands.c, s.operands.b, s.operands.a⟩, err := false }⟩ ∧
        exec (.rentryCab rep) ⟨w, selw, s⟩ =
          .next ⟨w, selw, { s with r := eval f ⟨s.operands.c, s.operands.a, s.operands.b⟩, err := false }⟩ ∧
        exec (.rentryBca rep) ⟨w, selw, s⟩ =
          .next ⟨w, selw, { s with r := eval f ⟨s.operands.b, s.operands.c, s.operands.a⟩, err := false }⟩) ∧
      (s.cfg.formula? rep = none → ∀ p : Perm, exec (instrOfEntry ⟨rep, p⟩) ⟨w, selw, s⟩ = .refused (.noFormula rep))

/-- Which entries a block runs (R58, R87): an entry completes exactly when it is well-formed, that is, when its representative is in
the Primary set. That an entry can be presented on its own is the model's choice (log 5). -/
def Obligations.EntryRowsCompleteExactlyWhenWellFormed : Prop :=
  ∀ (w selw : Nat) (s : Block w selw) (e : Entry),
    (∃ t, exec (instrOfEntry e) ⟨w, selw, s⟩ = .next t) ↔ instrWellFormed s.cfg.primary (instrOfEntry e) = true

/-- The rows FNODE.A to FNODE.XOR complete on every block: each delivers the value of its node on the operands (R66 to R70, R78) and
changes nothing but the outputs. That a formula can be presented on its own, with its leaves bound to the ports, and that its value goes
to `r` with `err = 0` is the model's choice (log 5). -/
def Obligations.FormulaRowsDeliverTheirNode : Prop :=
  ∀ (w selw : Nat) (s : Block w selw) (f g : Formula),
    exec .fnodeA ⟨w, selw, s⟩ = .next ⟨w, selw, { s with r := s.operands.a, err := false }⟩ ∧
      exec .fnodeB ⟨w, selw, s⟩ = .next ⟨w, selw, { s with r := s.operands.b, err := false }⟩ ∧
      exec .fnodeC ⟨w, selw, s⟩ = .next ⟨w, selw, { s with r := s.operands.c, err := false }⟩ ∧
      exec .fnodeOnes ⟨w, selw, s⟩ = .next ⟨w, selw, { s with r := BitVec.allOnes w, err := false }⟩ ∧
      exec (.fnodeNot f) ⟨w, selw, s⟩ = .next ⟨w, selw, { s with r := ~~~(eval f s.operands), err := false }⟩ ∧
      exec (.fnodeAnd f g) ⟨w, selw, s⟩ =
        .next ⟨w, selw, { s with r := eval f s.operands &&& eval g s.operands, err := false }⟩ ∧
      exec (.fnodeOr f g) ⟨w, selw, s⟩ =
        .next ⟨w, selw, { s with r := eval f s.operands ||| eval g s.operands, err := false }⟩ ∧
      exec (.fnodeXor f g) ⟨w, selw, s⟩ =
        .next ⟨w, selw, { s with r := eval f s.operands ^^^ eval g s.operands, err := false }⟩

/-- The formula rows compute the function of their code: the result of every formula on the operands is `Ref` of its `tt` (R78, R79).
That a formula presented on its own drives `r`, with `err = 0`, from the ports' operands is the model's choice (log 5). -/
def Obligations.FormulaRowsComputeTheirTruthTable : Prop :=
  ∀ (w selw : Nat) (s : Block w selw) (f : Formula),
    exec (instrOfFormula f) ⟨w, selw, s⟩ = .next ⟨w, selw, { s with r := ref (tt f) s.operands, err := false }⟩

/-- The evaluation of a code in its parts (R138, R139): the table's entry for the code, presented on its own, gives the result of the
evaluation, and so does the formula of its representative on the reordered operands. Presenting them on their own is the
model's choice (log 5). -/
def Obligations.EntryThenFormulaIsTheEvaluation : Prop :=
  ∀ (w selw : Nat) (s : Block w selw), s.Valid → ∀ k : Code,
    ∃ e f, readEntry s.rt k = .ok e ∧ s.cfg.formula? e.rep = some f ∧
      exec (instrOfEntry e) ⟨w, selw, s⟩ = .next ⟨w, selw, { s with r := ref k s.operands, err := false }⟩ ∧
      exec (instrOfFormula f) ⟨w, selw, { s with operands := permuteOperands s.operands e.perm }⟩ =
        .next ⟨w, selw, { s with operands := permuteOperands s.operands e.perm, r := ref k s.operands, err := false }⟩

/-- The known fixed points: TLOG.00 gives all zero, TLOG.FF all one, and TLOG.F0, TLOG.CC, TLOG.AA return `a`, `b`, `c` (R53, R142);
nothing else changes (R141), the stimulus, a field of the model's own, among it (log 5). -/
def Obligations.KnownFixedPoints : Prop :=
  ∀ (w selw : Nat) (s : Block w selw), s.Valid →
    exec .tlog00 ⟨w, selw, s⟩ = .next ⟨w, selw, { s with r := 0#w, err := false }⟩ ∧
      exec .tlogFF ⟨w, selw, s⟩ = .next ⟨w, selw, { s with r := BitVec.allOnes w, err := false }⟩ ∧
      exec .tlogF0 ⟨w, selw, s⟩ = .next ⟨w, selw, { s with r := s.operands.a, err := false }⟩ ∧
      exec .tlogCC ⟨w, selw, s⟩ = .next ⟨w, selw, { s with r := s.operands.b, err := false }⟩ ∧
      exec .tlogAA ⟨w, selw, s⟩ = .next ⟨w, selw, { s with r := s.operands.c, err := false }⟩

/-- The corner cases of R142: one vector on all three ports, a complemented code, a complemented operand, and reordered operands. -/
def Obligations.EvaluationCornerCases : Prop :=
  ∀ (w selw : Nat) (s : Block w selw), s.Valid → ∀ (k : Code) (x : Triple (BitVec w)) (v : BitVec w) (p : Perm),
    evaluate s.cfg s.rt k ⟨v, v, v⟩ =
        .ok (if k.getLsbD 7 then (if k.getLsbD 0 then BitVec.allOnes w else v) else if k.getLsbD 0 then ~~~v else 0#w) ∧
      (∃ r, evaluate s.cfg s.rt k x = .ok r ∧ evaluate s.cfg s.rt (k ^^^ 0xFF#8) x = .ok (~~~r)) ∧
      evaluate s.cfg s.rt k ⟨~~~x.a, x.b, x.c⟩ = evaluate s.cfg s.rt ((k <<< 4) ||| (k >>> 4)) x ∧
      evaluate s.cfg s.rt k x = evaluate s.cfg s.rt (permuteCode k p) (permuteOperands x p)

/-- The native bypass cannot be told from the reduced evaluation (R147). -/
def Obligations.NativeBypassAgreesWithTheReduction : Prop :=
  ∀ (w selw : Nat) (s : Block w selw), s.Valid → ∀ (k : Code) (x : Triple (BitVec w)),
    evaluate { s.cfg with nativeLut := true } s.rt k x = evaluate { s.cfg with nativeLut := false } s.rt k x

/-! ## The output ports -/

/-- Totality over the selector space (R149): for every selector value either `err` is 0 and `r` is `Ref`, which happens for the values up
to 255, or `err` is 1, which happens for all others. -/
def Obligations.EverySelectorGivesReferenceOrErr : Prop :=
  ∀ (w selw : Nat) (s : Block w selw), s.Valid → ∀ (sel : BitVec selw) (x : Triple (BitVec w)),
    ∃ o, outputs s sel x = some o ∧
      (if sel.toNat ≤ 255 then o.err = false ∧ o.r = ref (BitVec.ofNat 8 sel.toNat) x else o.err = true)

/-- The output ports show what the step answers (R16, R162): a result with `err = 0`, or `err = 1` for the fault. -/
def Obligations.OutputPortsShowTheStep : Prop :=
  ∀ (w selw : Nat) (s : Block w selw) (sel : BitVec selw) (x : Triple (BitVec w)) (o : Outputs w), outputs s sel x = some o →
    (o.err = false → ∃ t : Block w selw, evaluationOf ⟨w, selw, s⟩ sel x = .next ⟨w, selw, t⟩ ∧ t.r = o.r ∧ t.err = false) ∧
      (o.err = true → evaluationOf ⟨w, selw, s⟩ sel x = .fault (.invalidCode sel.toNat))

/-- The configuration cannot be observed (R10): two instances with the same widths, whatever their Primary sets, formulas and bypass
switches, give the same `err`, and where it is 0 the same result, which is `Ref`. -/
def Obligations.ConfigurationIsUnobservable : Prop :=
  ∀ (w selw : Nat) (s s' : Block w selw), s.Valid → s'.Valid → ∀ (sel : BitVec selw) (x : Triple (BitVec w)),
    ∃ o o', outputs s sel x = some o ∧ outputs s' sel x = some o' ∧ o.err = o'.err ∧
      (o.err = false → o.r = o'.r ∧ o.r = ref (BitVec.ofNat 8 sel.toNat) x)

/-- Evaluations do not interact (R17, R194): after any step, an evaluation has the outcome, whichever of the three it is, that it would
have had without that step. -/
def Obligations.EvaluationsDoNotInteract : Prop :=
  ∀ (w selw : Nat) (s t : Block w selw), step ⟨w, selw, s⟩ = .next ⟨w, selw, t⟩ →
    ∀ (sel : BitVec selw) (x : Triple (BitVec w)),
      evaluationOf ⟨w, selw, t⟩ sel x = evaluationOf ⟨w, selw, s⟩ sel x ∧ outputs t sel x = outputs s sel x

/-- There is no mutable state (R15, R141, R191): what stands on the outputs is read by no step, and a step presented with the same inputs
again ends as it did before. -/
def Obligations.StepReadsOnlyConfigurationAndInputs : Prop :=
  ∀ (w selw : Nat) (s : Block w selw),
    (∀ (r : BitVec w) (err : Bool), step ⟨w, selw, { s with r, err }⟩ = step ⟨w, selw, s⟩) ∧
      ∀ t : State, step ⟨w, selw, s⟩ = .next t → step t = .next t

/-- Instances of different widths agree lane by lane (R75). -/
def Obligations.WiderInstanceAgreesLaneByLane : Prop :=
  ∀ (w w' selw selw' : Nat) (s : Block w selw) (s' : Block w' selw'), s.Valid → s'.Valid → w ≤ w' →
    (∀ j, j < w → lane s'.operands j = lane s.operands j) → ∀ (i : Instr) (k : Nat), encode i = .cmd k →
      ∃ (t : Block w selw) (t' : Block w' selw'), exec i ⟨w, selw, s⟩ = .next ⟨w, selw, t⟩ ∧
        exec i ⟨w', selw', s'⟩ = .next ⟨w', selw', t'⟩ ∧ ∀ j, j < w → t'.r.getLsbD j = t.r.getLsbD j

/-! ## The ALU and the reference function -/

/-- The bit tables of the five operations, lane by lane (R66 to R70). -/
def Obligations.AluLaneTables : Prop :=
  ∀ (w : Nat) (x y : BitVec w) (i : Nat), i < w →
    (vAnd x y).getLsbD i = (x.getLsbD i && y.getLsbD i) ∧ (vOr x y).getLsbD i = (x.getLsbD i || y.getLsbD i) ∧
      (vXor x y).getLsbD i = (x.getLsbD i != y.getLsbD i) ∧ (vNot x).getLsbD i = !x.getLsbD i ∧ (vOnes w).getLsbD i = true

/-- The laws of Boolean algebra that R73 lists. -/
def Obligations.BooleanAlgebraLaws : Prop :=
  ∀ (w : Nat) (x y z : BitVec w),
    (vAnd x y = vAnd y x ∧ vOr x y = vOr y x ∧ vXor x y = vXor y x) ∧
      (vAnd (vAnd x y) z = vAnd x (vAnd y z) ∧ vOr (vOr x y) z = vOr x (vOr y z) ∧ vXor (vXor x y) z = vXor x (vXor y z)) ∧
      (vAnd x (vOr y z) = vOr (vAnd x y) (vAnd x z) ∧ vOr x (vAnd y z) = vAnd (vOr x y) (vOr x z)) ∧
      (vNot (vAnd x y) = vOr (vNot x) (vNot y) ∧ vNot (vOr x y) = vAnd (vNot x) (vNot y)) ∧
      vXor x y = vOr (vAnd x (vNot y)) (vAnd (vNot x) y)

/-- Lane independence (R71): a lane of a formula's value is the value of the formula on that lane alone. -/
def Obligations.FormulaLanesAreOneLaneEvaluations : Prop :=
  ∀ (w : Nat) (f : Formula) (t : Triple (BitVec w)) (j : Nat), j < w →
    (eval f t).getLsbD j =
      (eval f (⟨BitVec.ofBool (t.a.getLsbD j), BitVec.ofBool (t.b.getLsbD j), BitVec.ofBool (t.c.getLsbD j)⟩ :
        Triple (BitVec 1))).getLsbD 0

/-- The reference function (R136): its lanes, the lanes of `m_j`, and its closed form. -/
def Obligations.ReferenceIsLanewiseAndHasAClosedForm : Prop :=
  ∀ (w : Nat) (k : Code) (t : Triple (BitVec w)),
    (∀ i, i < w → (ref k t).getLsbD i =
        k.getLsbD (((t.a.getLsbD i).toNat <<< 2) ||| ((t.b.getLsbD i).toNat <<< 1) ||| (t.c.getLsbD i).toNat)) ∧
      (∀ i j, i < w → j < 8 → (minterm t j).getLsbD i = decide (idx (lane t i) = j)) ∧ ref k t = refByMinterms k t

/-- Correctness of the library (R80): in a valid configuration every member of the Primary set has a formula, whose truth table is the
code, and which is in every lane of every width the function of that code. -/
def Obligations.ValidFormulasComputeTheirCodes : Prop :=
  ∀ cfg : Config, Config.Valid cfg → ∀ r ∈ cfg.primary, ∃ f, cfg.formula? r = some f ∧
    tt f = r ∧ ∀ (w : Nat) (t : Triple (BitVec w)) (i : Nat), i < w → (eval f t).getLsbD i = codeFn r (lane t i)

/-- Every default formula has its code as truth table (R85, R86). -/
def Obligations.DefaultFormulasComputeTheirCodes : Prop := ∀ k : Code, tt (directFormula k) = k

/-! ## The permutation engine -/

/-- `PermuteCode(k, π)` (R100): it is the one code whose function on the reordered inputs is `f_k`; its bits are those of `k`, moved, and
the source bits are those of the rule's table. -/
def Obligations.CodeRemapIsTheUniqueSolution : Prop :=
  ∀ (k k' : Code) (p : Perm),
    ((∀ x : Triple Bool, codeFn k x = codeFn k' (permuteOperands x p)) ↔ k' = permuteCode k p) ∧
      (∀ x : Triple Bool, (permuteCode k p).getLsbD (idx (permuteOperands x p)) = k.getLsbD (idx x)) ∧
      (List.range 8).map (fun d => (permuteCode k p).getLsbD d) =
        (match p with
          | .abc => [0, 1, 2, 3, 4, 5, 6, 7]
          | .bac => [0, 1, 4, 5, 2, 3, 6, 7]
          | .acb => [0, 2, 1, 3, 4, 6, 5, 7]
          | .cba => [0, 4, 2, 6, 1, 5, 3, 7]
          | .cab => [0, 2, 4, 6, 1, 3, 5, 7]
          | .bca => [0, 4, 1, 5, 2, 6, 3, 7]).map (fun d => k.getLsbD d)

/-- Permutation soundness for vectors (R107). -/
def Obligations.CodeRemapPreservesTheReference : Prop :=
  ∀ (w : Nat) (k : Code) (p : Perm) (t : Triple (BitVec w)), ref k t = ref (permuteCode k p) (permuteOperands t p)

/-- The closed forms of the remaps (R101 to R106); for the three-cycles the source bits of their tables. -/
def Obligations.CodeRemapClosedForms : Prop :=
  ∀ k : Code,
    permuteCode k .abc = k ∧
      permuteCode k .bac = (k &&& 0xC3#8) ||| ((k &&& 0x0C#8) <<< 2) ||| ((k &&& 0x30#8) >>> 2) ∧
      permuteCode k .acb = (k &&& 0x99#8) ||| ((k &&& 0x22#8) <<< 1) ||| ((k &&& 0x44#8) >>> 1) ∧
      permuteCode k .cba = (k &&& 0xA5#8) ||| ((k &&& 0x0A#8) <<< 3) ||| ((k &&& 0x50#8) >>> 3) ∧
      ((List.range 8).map fun d => (permuteCode k .cab).getLsbD d) = [0, 2, 4, 6, 1, 3, 5, 7].map (fun d => k.getLsbD d) ∧
      ((List.range 8).map fun d => (permuteCode k .bca).getLsbD d) = [0, 4, 1, 5, 2, 6, 3, 7].map (fun d => k.getLsbD d)

/-- Inverses and composition, of operands and of codes, with the same permutation for both (R108, R109, R110). -/
def Obligations.PermutationsComposeAlikeOnOperandsAndCodes : Prop :=
  ∀ (p q : Perm) (k : Code) (w : Nat) (t : Triple (BitVec w)),
    permuteOperands (permuteOperands t p) (inversePerm p) = t ∧ permuteCode (permuteCode k p) (inversePerm p) = k ∧
      permuteOperands (permuteOperands t p) q = permuteOperands t (composePerm p q) ∧
      permuteCode (permuteCode k p) q = permuteCode k (composePerm p q)

/-- What every remap preserves (R116). -/
def Obligations.CodeRemapPreservesCountsAndOperations : Prop :=
  ∀ (k j : Code) (p : Perm),
    (permuteCode k p).getLsbD 0 = k.getLsbD 0 ∧ (permuteCode k p).getLsbD 7 = k.getLsbD 7 ∧
      (List.range 8).countP (fun d => (permuteCode k p).getLsbD d) = (List.range 8).countP (fun d => k.getLsbD d) ∧
      [1, 2, 4].countP (fun d => (permuteCode k p).getLsbD d) = [1, 2, 4].countP (fun d => k.getLsbD d) ∧
      [3, 5, 6].countP (fun d => (permuteCode k p).getLsbD d) = [3, 5, 6].countP (fun d => k.getLsbD d) ∧
      permuteCode (k ^^^ 0xFF#8) p = permuteCode k p ^^^ 0xFF#8 ∧
      (sameOrbit k j = true ↔ sameOrbit (k ^^^ 0xFF#8) (j ^^^ 0xFF#8) = true) ∧
      permuteCode (j &&& k) p = permuteCode j p &&& permuteCode k p ∧
      permuteCode (j ||| k) p = permuteCode j p ||| permuteCode k p ∧
      permuteCode (j ^^^ k) p = permuteCode j p ^^^ permuteCode k p

/-- Orbits partition the codes (R113). -/
def Obligations.OrbitsPartitionTheCodes : Prop :=
  ∀ k j l : Code,
    sameOrbit k k = true ∧ (sameOrbit k j = true → sameOrbit j k = true) ∧
      (sameOrbit k j = true → sameOrbit j l = true → sameOrbit k l = true) ∧
      (sameOrbit k j = true ↔ j ∈ orbit k) ∧ (sameOrbit k j = true ↔ ∃ p, permuteCode k p = j)

/-- Orbit sizes (R114): 1, 3 or 6, size 1 exactly for the functions symmetric in all inputs; 16 codes in orbits of size 1, 144 of size
3, 96 of size 6; and the 80 orbit minima are `PRIMARY_DEFAULT` (R84, R115). -/
def Obligations.OrbitSizesAndMinima : Prop :=
  (∀ k : Code, ((orbit k).length = 1 ∨ (orbit k).length = 3 ∨ (orbit k).length = 6) ∧
      ((orbit k).length = 1 ↔ k.getLsbD 1 = k.getLsbD 2 ∧ k.getLsbD 2 = k.getLsbD 4 ∧ k.getLsbD 3 = k.getLsbD 5 ∧
        k.getLsbD 5 = k.getLsbD 6)) ∧
    allCodes.countP (fun k => (orbit k).length == 1) = 16 ∧ allCodes.countP (fun k => (orbit k).length == 3) = 144 ∧
    allCodes.countP (fun k => (orbit k).length == 6) = 96 ∧
    allCodes.filter (fun k => (orbit k).all fun j => decide (k.toNat ≤ j.toNat)) = primaryDefault ∧ primaryDefault.length = 80

/-! ## The builder and the table -/

/-- The ReductionEntry invariant (R120) of every table the builder returns. -/
def Obligations.BuiltEntriesSatisfyTheInvariant : Prop :=
  ∀ (primary : List Code) (es : List Entry), buildReductionTable primary = .ok es →
    es.length = 256 ∧ ∀ k : Code, ∃ e, es[k.toNat]? = some e ∧ e.rep ∈ primary ∧
      (∀ x : Triple Bool, codeFn k x = codeFn e.rep (permuteOperands x e.perm)) ∧ e.rep = permuteCode k e.perm ∧
      sameOrbit k e.rep = true

/-- The algorithm of R122: a member of the set gets the identity; any other code gets the first permutation of the search order that
carries it into the set; the build fails exactly where some code has none, and names such a code. -/
def Obligations.BuilderTakesTheFirstMatch : Prop :=
  ∀ primary : List Code,
    (∀ es, buildReductionTable primary = .ok es → ∀ k : Code,
      (k ∈ primary → es[k.toNat]? = some ⟨k, .abc⟩) ∧
        (k ∉ primary → ∃ before p after, [Perm.bac, .acb, .cba, .cab, .bca] = before ++ p :: after ∧
          permuteCode k p ∈ primary ∧ (∀ q ∈ before, permuteCode k q ∉ primary) ∧
          es[k.toNat]? = some ⟨permuteCode k p, p⟩)) ∧
      ((∃ k : Code, k ∉ primary ∧ ∀ p ∈ [Perm.bac, .acb, .cba, .cab, .bca], permuteCode k p ∉ primary) →
        ∃ k, buildReductionTable primary = .error k) ∧
      ∀ k, buildReductionTable primary = .error k →
        k ∉ primary ∧ ∀ p ∈ [Perm.bac, .acb, .cba, .cab, .bca], permuteCode k p ∉ primary

/-- Failure of the build (R124): it happens exactly when some orbit has no member in the set; the code named is the smallest whose orbit
is not covered; and of an otherwise valid configuration no instance is made, but the fault IncompleteCoverage. -/
def Obligations.BuildFailsExactlyOnAnUncoveredOrbit : Prop :=
  (∀ primary : List Code, (∃ k, buildReductionTable primary = .error k) ↔ ∃ k : Code, ∀ j ∈ orbit k, j ∉ primary) ∧
    (∀ (primary : List Code) (k : Code), buildReductionTable primary = .error k ↔
      (∀ p, permuteCode k p ∉ primary) ∧ ∀ j : Code, j.toNat < k.toNat → ∃ p, permuteCode j p ∈ primary) ∧
    (∀ (w selw : Nat) (cfg : Config) (k : Code), 1 ≤ w → 8 ≤ selw → Config.Valid cfg →
      (instantiate w selw cfg = .fault (.incompleteCoverage k) ↔ buildReductionTable cfg.primary = .error k)) ∧
    buildReductionTable (primaryDefault.erase 0x1A#8) = .error 0x1A#8 ∧ buildReductionTable [] = .error 0x00#8

/-- Properties of every built table (R125): the identity stands exactly at the members of the set, and every representative that occurs
has the identity entry. -/
def Obligations.BuiltTableProperties : Prop :=
  ∀ (primary : List Code) (es : List Entry), buildReductionTable primary = .ok es → ∀ (k : Code) (e : Entry),
    es[k.toNat]? = some e →
      (e = ⟨k, .abc⟩ ↔ k ∈ primary) ∧ (e.perm = .abc → e.rep = k) ∧ es[e.rep.toNat]? = some ⟨e.rep, .abc⟩ ∧
        instrWellFormed primary (instrOfEntry e) = true

/-- The default table is the ROM image of R127 (R126). -/
def Obligations.DefaultTableIsTheRomImage : Prop := publishedTable primaryDefault = some (Memory.image romDefault)

/-- The tables of other Primary sets that R130 works out, entry by entry: all codes, the default set with 0x0C, and the largest code of
each orbit. -/
def Obligations.TablesOfOtherPrimarySets : Prop :=
  (∀ k : Code, findEntry allCodes k = some ⟨k, .abc⟩) ∧
    (findEntry (0x0C#8 :: primaryDefault) 0x0C#8 = some ⟨0x0C#8, .abc⟩ ∧
      findEntry (0x0C#8 :: primaryDefault) 0x30#8 = some ⟨0x0C#8, .bac⟩ ∧
      findEntry (0x0C#8 :: primaryDefault) 0x44#8 = some ⟨0x0C#8, .cba⟩ ∧
      ∀ k : Code, k ≠ 0x0C#8 → k ≠ 0x30#8 → k ≠ 0x44#8 →
        findEntry (0x0C#8 :: primaryDefault) k = findEntry primaryDefault k) ∧
    ∀ largest : List Code, (∀ k, k ∈ largest ↔ ∀ j, sameOrbit k j = true → j.toNat ≤ k.toNat) →
      findEntry largest 0xF0#8 = some ⟨0xF0#8, .abc⟩ ∧ findEntry largest 0xCC#8 = some ⟨0xF0#8, .bac⟩ ∧
        findEntry largest 0xAA#8 = some ⟨0xF0#8, .cba⟩ ∧ findEntry largest 0x0A#8 = some ⟨0x50#8, .cba⟩ ∧
        findEntry largest 0x30#8 = some ⟨0x50#8, .acb⟩

/-- A published table is in canonical form, holds at every index of the space the word of that code's entry, and holds nothing outside
it (R30, R31, R38). -/
def Obligations.PublishedTableIsCanonicalAndComplete : Prop :=
  ∀ (primary : List Code) (rt : Memory), publishedTable primary = some rt →
    rt.wf ∧ (∀ k : Code, ∃ e, findEntry primary k = some e ∧ rt.read k.toNat = some (entryWord e)) ∧
      ∀ index, 256 ≤ index → rt.read index = none

/-! ## Instances -/

/-- Build, then publish (R192): whatever is instantiated is an instance of TLD of that configuration and those widths, and every
configuration that meets the constraints and covers every orbit can be instantiated. -/
def Obligations.InstantiateGivesValidInstances : Prop :=
  ∀ (w selw : Nat) (cfg : Config),
    (∀ s, instantiate w selw cfg = .next s →
      ∃ b : Block w selw, s = ⟨w, selw, b⟩ ∧ b.Valid ∧ b.cfg = cfg ∧ b.stimulus = .command) ∧
      (1 ≤ w → 8 ≤ selw → Config.Valid cfg → (∀ k : Code, ∃ p, permuteCode k p ∈ cfg.primary) →
        ∃ s, instantiate w selw cfg = .next s)

/-- What instantiation refuses (R8, R80, U4), in the order in which it looks, which is the model's choice (log 9). -/
def Obligations.InstantiateRefusesBadParameters : Prop :=
  ∀ (w selw : Nat) (cfg : Config),
    (w = 0 → instantiate w selw cfg = .refused .zeroWidth) ∧
      (1 ≤ w → selw < 8 → instantiate w selw cfg = .refused (.narrowSelector selw)) ∧
      (1 ≤ w → 8 ≤ selw → codesRising cfg.library = false → instantiate w selw cfg = .refused .malformedLibrary) ∧
      (1 ≤ w → 8 ≤ selw → codesRising cfg.library = true → ∀ p ∈ cfg.library, tt p.2 ≠ p.1 →
        ∃ k f, (k, f) ∈ cfg.library ∧ tt f ≠ k ∧ instantiate w selw cfg = .refused (.wrongFormula k))

/-- The state the model starts from is the instance that the default configuration gives, and is an instance of TLD; its table is the
spec's (R26, R190), its number of lanes and the values on its ports are the model's choice (log 1, log 3). -/
def Obligations.ResetIsTheDefaultInstance : Prop :=
  instantiate 8 8 defaultConfig = .next State.reset ∧ State.reset.Valid

/-- Every step of an instance of TLD leaves an instance of TLD (R15, R34, R129). -/
def Obligations.StepKeepsInstancesValid : Prop := ∀ s t : State, s.Valid → step s = .next t → t.Valid

/-- Every step keeps the table's canonical form. -/
def Obligations.StepKeepsTheTableCanonical : Prop :=
  ∀ s t : State, s.block.rt.wf → step s = .next t → t.block.rt.wf

/-- No step of any of the 270 instructions changes a width, the configuration, a word of the table, or an input (R18, R21, R34,
R141). The stimulus among the inputs is the model's own (log 5). -/
def Obligations.StepNeverChangesTableConfigurationOrInputs : Prop :=
  ∀ (w selw : Nat) (s : Block w selw) (t : State), step ⟨w, selw, s⟩ = .next t →
    ∃ b : Block w selw, t = ⟨w, selw, b⟩ ∧ b.cfg = s.cfg ∧ b.rt = s.rt ∧ (∀ index, b.rt.read index = s.rt.read index) ∧
      b.stimulus = s.stimulus ∧ b.sel = s.sel ∧ b.operands = s.operands
end

