-- ==== Sys2Proof/Laws/Alu.lean ====
section
/-! SUPPORT. What the ALU, the reference function and the multiplexer do in one lane. -/

namespace Sys2Proof.Laws

open Sys2Proof.Machine

variable {w : Nat}

@[simp] theorem getLsbD_vAnd (x y : BitVec w) (i : Nat) : (vAnd x y).getLsbD i = (x.getLsbD i && y.getLsbD i) := by
  simp [vAnd]

@[simp] theorem getLsbD_vOr (x y : BitVec w) (i : Nat) : (vOr x y).getLsbD i = (x.getLsbD i || y.getLsbD i) := by
  simp [vOr]

@[simp] theorem getLsbD_vXor (x y : BitVec w) (i : Nat) :
    (vXor x y).getLsbD i = Bool.xor (x.getLsbD i) (y.getLsbD i) := by
  simp [vXor]

@[simp] theorem getLsbD_vNot (x : BitVec w) (i : Nat) : (vNot x).getLsbD i = (decide (i < w) && !x.getLsbD i) := by
  simp [vNot]

@[simp] theorem getLsbD_vOnes (i : Nat) : (vOnes w).getLsbD i = decide (i < w) := by
  simp [vOnes]

/-- A vector made lane by lane has those lanes and no other bit. -/
@[simp] theorem getLsbD_ofLanes (w : Nat) (f : Nat → Bool) (i : Nat) :
    (ofLanes w f).getLsbD i = (decide (i < w) && f i) := by
  induction w with
  | zero => simp [ofLanes]
  | succ w ih =>
    rw [ofLanes, BitVec.getLsbD_cons, ih]
    by_cases h : i = w
    · simp [h]
    · by_cases h' : i < w
      · simp [h, h', Nat.lt_succ_of_lt h']
      · have : ¬ i < w + 1 := by omega
        simp [h, h', this]

/-- The input index of a lane is one of the eight bit positions of a code. -/
theorem idx_lt (t : Triple Bool) : idx t < 8 := by
  obtain ⟨x, y, z⟩ := t
  cases x <;> cases y <;> cases z <;> decide

/-- The bits of an index give the index back. -/
@[simp] theorem indexBits_idx (t : Triple Bool) : indexBits (idx t) = t := by
  obtain ⟨x, y, z⟩ := t
  cases x <;> cases y <;> cases z <;> rfl

/-- The multiplexer reorders the bits of a lane as it reorders the vectors. -/
theorem lane_permuteOperands (t : Triple (BitVec w)) (p : Perm) (i : Nat) :
    lane (permuteOperands t p) i = permuteOperands (lane t i) p := by
  cases p <;> rfl

/-- A permutation and then its inverse leave three values in place. -/
@[simp] theorem permuteOperands_inverse {α : Type} (t : Triple α) (p : Perm) :
    permuteOperands (permuteOperands t p) (inversePerm p) = t := by
  cases p <;> rfl

/-- A code takes its bits to the places where the multiplexer takes the inputs. -/
theorem codeFn_permuteCode (k : Code) (p : Perm) (t : Triple Bool) :
    codeFn (permuteCode k p) (permuteOperands t p) = codeFn k t := by
  rw [codeFn, permuteCode, getLsbD_ofLanes, sourceBit, indexBits_idx, permuteOperands_inverse]
  simp [idx_lt, codeFn]

end Sys2Proof.Laws
end

