-- ==== Sys2Proof/Laws/State.lean ====
section
/-! SUPPORT. The field lemmas of the three changes a block can undergo. -/

namespace Sys2Proof.Laws

open Sys2Proof.Machine

variable {w selw : Nat} (s : Block w selw)

section Present
variable (sel : BitVec selw) (operands : Triple (BitVec w))
@[simp] theorem present_cfg : (s.present sel operands).cfg = s.cfg := rfl
@[simp] theorem present_rt : (s.present sel operands).rt = s.rt := rfl
@[simp] theorem present_stimulus : (s.present sel operands).stimulus = .command := rfl
@[simp] theorem present_sel : (s.present sel operands).sel = sel := rfl
@[simp] theorem present_operands : (s.present sel operands).operands = operands := rfl
@[simp] theorem present_r : (s.present sel operands).r = s.r := rfl
@[simp] theorem present_err : (s.present sel operands).err = s.err := rfl
end Present

section WithStimulus
variable (x : Stimulus)
@[simp] theorem withStimulus_cfg : (s.withStimulus x).cfg = s.cfg := rfl
@[simp] theorem withStimulus_rt : (s.withStimulus x).rt = s.rt := rfl
@[simp] theorem withStimulus_stimulus : (s.withStimulus x).stimulus = x := rfl
@[simp] theorem withStimulus_sel : (s.withStimulus x).sel = s.sel := rfl
@[simp] theorem withStimulus_operands : (s.withStimulus x).operands = s.operands := rfl
@[simp] theorem withStimulus_r : (s.withStimulus x).r = s.r := rfl
@[simp] theorem withStimulus_err : (s.withStimulus x).err = s.err := rfl
end WithStimulus

section Deliver
variable (r : BitVec w)
@[simp] theorem deliver_cfg : (s.deliver r).cfg = s.cfg := rfl
@[simp] theorem deliver_rt : (s.deliver r).rt = s.rt := rfl
@[simp] theorem deliver_stimulus : (s.deliver r).stimulus = s.stimulus := rfl
@[simp] theorem deliver_sel : (s.deliver r).sel = s.sel := rfl
@[simp] theorem deliver_operands : (s.deliver r).operands = s.operands := rfl
@[simp] theorem deliver_r : (s.deliver r).r = r := rfl
@[simp] theorem deliver_err : (s.deliver r).err = false := rfl
end Deliver

end Sys2Proof.Laws
end

