-- ==== Sys2Proof/Laws/Ops.lean ====
section
/-! SUPPORT. Once for each shared operation: everything it can do. -/

namespace Sys2Proof.Laws

open Sys2Proof.Machine

/-- A result always drives the port. -/
theorem driveResult_next {s t : State} {r : BitVec s.w} (h : driveResult s r = .next t) :
    t = ⟨s.w, s.selw, s.block.deliver r⟩ := by
  cases h
  rfl

/-- A step that computes a result gives a next state exactly where there is one, and then delivers it. -/
theorem conclude_next {s t : State} {result : Except Refusal (BitVec s.w)} (h : conclude s result = .next t) :
    ∃ r, result = .ok r ∧ t = ⟨s.w, s.selw, s.block.deliver r⟩ := by
  cases result with
  | ok r => exact ⟨r, rfl, driveResult_next h⟩
  | error e => cases h

/-- A step that computes a result never faults: the range check stands before it. -/
theorem conclude_fault {s : State} {result : Except Refusal (BitVec s.w)} {f : Fault} : conclude s result ≠ .fault f := by
  cases result <;> simp [conclude, driveResult]

/-- An evaluation of a code gives a next state exactly where there is a result, and then delivers it. -/
theorem evaluateCode_next {k : Code} {s t : State} (h : evaluateCode k s = .next t) :
    ∃ r, evaluate s.block.cfg s.block.rt k s.block.operands = .ok r ∧ t = ⟨s.w, s.selw, s.block.deliver r⟩ :=
  conclude_next h

/-- An evaluation of a code never faults. -/
theorem evaluateCode_fault {k : Code} {s : State} {f : Fault} : evaluateCode k s ≠ .fault f := conclude_fault

/-- An evaluation that has a result delivers it. -/
theorem evaluateCode_ok {k : Code} {s : State} {r : BitVec s.w}
    (h : evaluate s.block.cfg s.block.rt k s.block.operands = .ok r) :
    evaluateCode k s = .next ⟨s.w, s.selw, s.block.deliver r⟩ := by
  simp [evaluateCode, conclude, driveResult, h]

/-- What the wires of one evaluation give. -/
theorem runWires_ok {w : Nat} {cfg : Config} {x : Wires w} {r : BitVec w} (h : runWires cfg x = .ok r) :
    ∃ f, cfg.formula? x.rep = some f ∧ r = eval f x.mux := by
  unfold runWires at h
  split at h
  · cases h
  · rename_i f hf
    cases h
    exact ⟨f, hf, rfl⟩

/-- An entry presented on its own gives a next state exactly where its representative has a formula, and then delivers the value of
that formula on the reordered operands. -/
theorem evaluateEntry_next {e : Entry} {s t : State} (h : evaluateEntry e s = .next t) :
    ∃ f, s.block.cfg.formula? e.rep = some f ∧
      t = ⟨s.w, s.selw, s.block.deliver (eval f (permuteOperands s.block.operands e.perm))⟩ := by
  obtain ⟨r, hr, rfl⟩ := conclude_next h
  obtain ⟨f, hf, rfl⟩ := runWires_ok hr
  exact ⟨f, hf, rfl⟩

/-- An entry whose representative has a formula delivers the value of that formula on the reordered operands. -/
theorem evaluateEntry_ok {e : Entry} {s : State} {f : Formula} (h : s.block.cfg.formula? e.rep = some f) :
    evaluateEntry e s = .next ⟨s.w, s.selw, s.block.deliver (eval f (permuteOperands s.block.operands e.perm))⟩ := by
  simp [evaluateEntry, conclude, driveResult, runWires, routeEntry, h]

/-- An entry whose representative has no formula is refused. -/
theorem evaluateEntry_none {e : Entry} {s : State} (h : s.block.cfg.formula? e.rep = none) :
    evaluateEntry e s = .refused (.noFormula e.rep) := by
  simp [evaluateEntry, conclude, runWires, routeEntry, h]

/-- A fault of the selector gives no next state. -/
theorem raiseInvalidCode_next {n : Nat} {t : State} : raiseInvalidCode n ≠ .next t := by
  simp [raiseInvalidCode]

/-- A step that decodes nothing gives no next state. -/
theorem reject_next {e : DecodeError} {t : State} : reject e ≠ .next t := by
  cases e <;> simp [reject, raiseInvalidCode]

/-- What an evaluation through the table does, step by step. -/
theorem reducedEvaluate_ok {w : Nat} {cfg : Config} {rt : Memory} {k : Code} {operands : Triple (BitVec w)} {r : BitVec w}
    (h : reducedEvaluate cfg rt k operands = .ok r) :
    ∃ word e f, rt.read k.toNat = some word ∧ entryOfWord word = some e ∧ cfg.formula? e.rep = some f ∧
      r = eval f (permuteOperands operands e.perm) := by
  unfold reducedEvaluate readEntry at h
  split at h
  · cases h
  · rename_i entry hentry
    split at hentry
    · cases hentry
    · rename_i word hread
      split at hentry
      · cases hentry
      · rename_i e he
        cases hentry
        obtain ⟨f, hf, hr⟩ := runWires_ok h
        exact ⟨word, entry, f, hread, he, hf, hr⟩

/-- Every TLOG row is the evaluation of its code. -/
theorem exec_cmd {i : Instr} {n : Nat} (h : encode i = .cmd n) (s : State) :
    exec i s = evaluateCode (BitVec.ofNat 8 n) s := by
  cases i <;> first | (cases h; rfl) | cases h

/-- Every RENTRY row is the rest of an evaluation from its entry on. -/
theorem exec_entry (e : Entry) (s : State) : exec (instrOfEntry e) s = evaluateEntry e s := by
  obtain ⟨rep, p⟩ := e
  cases p <;> rfl

/-- Every FNODE row drives the value of its formula. -/
theorem exec_formula (f : Formula) (s : State) : exec (instrOfFormula f) s = driveResult s (evalOnPorts f s) := by
  cases f <;> rfl

/-- Every instruction is a row of one of the three formats. -/
theorem instr_cases (i : Instr) :
    (∃ n, encode i = .cmd n ∧ n < 256) ∨ (∃ e, i = instrOfEntry e) ∨ ∃ f, i = instrOfFormula f := by
  cases i
  case rentryAbc rep => exact .inr (.inl ⟨⟨rep, .abc⟩, rfl⟩)
  case rentryBac rep => exact .inr (.inl ⟨⟨rep, .bac⟩, rfl⟩)
  case rentryAcb rep => exact .inr (.inl ⟨⟨rep, .acb⟩, rfl⟩)
  case rentryCba rep => exact .inr (.inl ⟨⟨rep, .cba⟩, rfl⟩)
  case rentryCab rep => exact .inr (.inl ⟨⟨rep, .cab⟩, rfl⟩)
  case rentryBca rep => exact .inr (.inl ⟨⟨rep, .bca⟩, rfl⟩)
  case fnodeA => exact .inr (.inr ⟨.a, rfl⟩)
  case fnodeB => exact .inr (.inr ⟨.b, rfl⟩)
  case fnodeC => exact .inr (.inr ⟨.c, rfl⟩)
  case fnodeOnes => exact .inr (.inr ⟨.ones, rfl⟩)
  case fnodeNot f => exact .inr (.inr ⟨.not f, rfl⟩)
  case fnodeAnd f g => exact .inr (.inr ⟨.and f g, rfl⟩)
  case fnodeOr f g => exact .inr (.inr ⟨.or f g, rfl⟩)
  case fnodeXor f g => exact .inr (.inr ⟨.xor f g, rfl⟩)
  all_goals exact .inl ⟨_, rfl, by decide⟩

/-- What a next state of an instruction is, for all 270 rows: the same block with a result delivered. -/
theorem exec_next {i : Instr} {s t : State} (h : exec i s = .next t) : ∃ r, t = ⟨s.w, s.selw, s.block.deliver r⟩ := by
  obtain ⟨n, hn, -⟩ | ⟨e, rfl⟩ | ⟨f, rfl⟩ := instr_cases i
  · obtain ⟨r, -, rfl⟩ := evaluateCode_next (exec_cmd hn s ▸ h)
    exact ⟨r, rfl⟩
  · obtain ⟨f, -, rfl⟩ := evaluateEntry_next (exec_entry e s ▸ h)
    exact ⟨_, rfl⟩
  · exact ⟨_, driveResult_next (exec_formula f s ▸ h)⟩

/-- A step that gives a next state ran the instruction it fetched. -/
theorem step_next {s t : State} (h : step s = .next t) : ∃ i, fetch s = .ok i ∧ exec i s = .next t := by
  unfold step at h
  split at h
  · rename_i i hi
    exact ⟨i, hi, h⟩
  · exact absurd h reject_next

/-- A number that fits port `sel` is stored as a presented selector, and the others in their places. -/
theorem store_of_fits {s : State} {e : Encoded} (h : encodedFits s.selw e = true) : (s.store e).block.encoded = e := by
  rw [State.store, if_pos h]
  cases e with
  | cmd n =>
    have hn : n < 2 ^ s.selw := by simpa [encodedFits] using h
    simp [State.place, State.present, Block.present, Block.encoded, Nat.mod_eq_of_lt hn]
  | rentry word => rfl
  | fnode tags => rfl

/-- A number that does not fit is not stored. -/
theorem store_of_not_fits {s : State} {e : Encoded} (h : encodedFits s.selw e = false) : s.store e = s := by
  simp [State.store, h]

/-- What an instance that could be built is. -/
theorem instantiate_next {w selw : Nat} {cfg : Config} {s : State} (h : instantiate w selw cfg = .next s) :
    w ≠ 0 ∧ 8 ≤ selw ∧ codesRising cfg.library = true ∧ firstWrongFormula cfg.library = none ∧
      ∃ es, buildReductionTable cfg.primary = .ok es ∧
        s = ⟨w, selw, Block.initial cfg (Memory.image (es.map entryWord))⟩ := by
  unfold instantiate at h
  split at h
  · cases h
  · rename_i hw
    split at h
    · cases h
    · rename_i hsel
      split at h
      · cases h
      · rename_i hrise
        split at h
        · cases h
        · rename_i hwrong
          split at h
          · cases h
          · rename_i es hes
            exact ⟨hw, by omega, by simpa using hrise, hwrong, es, hes, by cases h; rfl⟩

end Sys2Proof.Laws
end

