-- ==== Sys2Proof/Laws/PerInstr.lean ====
section
/-! SUPPORT. The family `TableRow`, instruction by instruction: what `encode` gives has the row's `match` under the row's
`mask`, both copied from spec/opcode_table.json (not computed from `encode`). -/

namespace Sys2Proof.Laws

/-- The bits of something encoded as the opcode table numbers them: a tag string counts from its first tag. -/
def encodedNumber : Encoded → Nat
  | .cmd selector => selector
  | .rentry word => word.toNat
  | .fnode tags => tagsNumber tags
where
  /-- three bits a tag -/
  tagsNumber : List Tag → Nat
    | [] => 0
    | tag :: rest => tag.toNat + 8 * tagsNumber rest

/-- The `mask` of an instruction's row. -/
def rowMask (i : Instr) : Nat :=
  match encode i with
  | .cmd _ => 0xFF
  | .rentry _ => 0x700
  | .fnode _ => 0x7

/-- The `match` of an instruction's row. -/
def rowMatch (i : Instr) : Nat :=
  match i with
  | .tlog00 => 0x00
  | .tlog01 => 0x01
  | .tlog02 => 0x02
  | .tlog03 => 0x03
  | .tlog04 => 0x04
  | .tlog05 => 0x05
  | .tlog06 => 0x06
  | .tlog07 => 0x07
  | .tlog08 => 0x08
  | .tlog09 => 0x09
  | .tlog0A => 0x0A
  | .tlog0B => 0x0B
  | .tlog0C => 0x0C
  | .tlog0D => 0x0D
  | .tlog0E => 0x0E
  | .tlog0F => 0x0F
  | .tlog10 => 0x10
  | .tlog11 => 0x11
  | .tlog12 => 0x12
  | .tlog13 => 0x13
  | .tlog14 => 0x14
  | .tlog15 => 0x15
  | .tlog16 => 0x16
  | .tlog17 => 0x17
  | .tlog18 => 0x18
  | .tlog19 => 0x19
  | .tlog1A => 0x1A
  | .tlog1B => 0x1B
  | .tlog1C => 0x1C
  | .tlog1D => 0x1D
  | .tlog1E => 0x1E
  | .tlog1F => 0x1F
  | .tlog20 => 0x20
  | .tlog21 => 0x21
  | .tlog22 => 0x22
  | .tlog23 => 0x23
  | .tlog24 => 0x24
  | .tlog25 => 0x25
  | .tlog26 => 0x26
  | .tlog27 => 0x27
  | .tlog28 => 0x28
  | .tlog29 => 0x29
  | .tlog2A => 0x2A
  | .tlog2B => 0x2B
  | .tlog2C => 0x2C
  | .tlog2D => 0x2D
  | .tlog2E => 0x2E
  | .tlog2F => 0x2F
  | .tlog30 => 0x30
  | .tlog31 => 0x31
  | .tlog32 => 0x32
  | .tlog33 => 0x33
  | .tlog34 => 0x34
  | .tlog35 => 0x35
  | .tlog36 => 0x36
  | .tlog37 => 0x37
  | .tlog38 => 0x38
  | .tlog39 => 0x39
  | .tlog3A => 0x3A
  | .tlog3B => 0x3B
  | .tlog3C => 0x3C
  | .tlog3D => 0x3D
  | .tlog3E => 0x3E
  | .tlog3F => 0x3F
  | .tlog40 => 0x40
  | .tlog41 => 0x41
  | .tlog42 => 0x42
  | .tlog43 => 0x43
  | .tlog44 => 0x44
  | .tlog45 => 0x45
  | .tlog46 => 0x46
  | .tlog47 => 0x47
  | .tlog48 => 0x48
  | .tlog49 => 0x49
  | .tlog4A => 0x4A
  | .tlog4B => 0x4B
  | .tlog4C => 0x4C
  | .tlog4D => 0x4D
  | .tlog4E => 0x4E
  | .tlog4F => 0x4F
  | .tlog50 => 0x50
  | .tlog51 => 0x51
  | .tlog52 => 0x52
  | .tlog53 => 0x53
  | .tlog54 => 0x54
  | .tlog55 => 0x55
  | .tlog56 => 0x56
  | .tlog57 => 0x57
  | .tlog58 => 0x58
  | .tlog59 => 0x59
  | .tlog5A => 0x5A
  | .tlog5B => 0x5B
  | .tlog5C => 0x5C
  | .tlog5D => 0x5D
  | .tlog5E => 0x5E
  | .tlog5F => 0x5F
  | .tlog60 => 0x60
  | .tlog61 => 0x61
  | .tlog62 => 0x62
  | .tlog63 => 0x63
  | .tlog64 => 0x64
  | .tlog65 => 0x65
  | .tlog66 => 0x66
  | .tlog67 => 0x67
  | .tlog68 => 0x68
  | .tlog69 => 0x69
  | .tlog6A => 0x6A
  | .tlog6B => 0x6B
  | .tlog6C => 0x6C
  | .tlog6D => 0x6D
  | .tlog6E => 0x6E
  | .tlog6F => 0x6F
  | .tlog70 => 0x70
  | .tlog71 => 0x71
  | .tlog72 => 0x72
  | .tlog73 => 0x73
  | .tlog74 => 0x74
  | .tlog75 => 0x75
  | .tlog76 => 0x76
  | .tlog77 => 0x77
  | .tlog78 => 0x78
  | .tlog79 => 0x79
  | .tlog7A => 0x7A
  | .tlog7B => 0x7B
  | .tlog7C => 0x7C
  | .tlog7D => 0x7D
  | .tlog7E => 0x7E
  | .tlog7F => 0x7F
  | .tlog80 => 0x80
  | .tlog81 => 0x81
  | .tlog82 => 0x82
  | .tlog83 => 0x83
  | .tlog84 => 0x84
  | .tlog85 => 0x85
  | .tlog86 => 0x86
  | .tlog87 => 0x87
  | .tlog88 => 0x88
  | .tlog89 => 0x89
  | .tlog8A => 0x8A
  | .tlog8B => 0x8B
  | .tlog8C => 0x8C
  | .tlog8D => 0x8D
  | .tlog8E => 0x8E
  | .tlog8F => 0x8F
  | .tlog90 => 0x90
  | .tlog91 => 0x91
  | .tlog92 => 0x92
  | .tlog93 => 0x93
  | .tlog94 => 0x94
  | .tlog95 => 0x95
  | .tlog96 => 0x96
  | .tlog97 => 0x97
  | .tlog98 => 0x98
  | .tlog99 => 0x99
  | .tlog9A => 0x9A
  | .tlog9B => 0x9B
  | .tlog9C => 0x9C
  | .tlog9D => 0x9D
  | .tlog9E => 0x9E
  | .tlog9F => 0x9F
  | .tlogA0 => 0xA0
  | .tlogA1 => 0xA1
  | .tlogA2 => 0xA2
  | .tlogA3 => 0xA3
  | .tlogA4 => 0xA4
  | .tlogA5 => 0xA5
  | .tlogA6 => 0xA6
  | .tlogA7 => 0xA7
  | .tlogA8 => 0xA8
  | .tlogA9 => 0xA9
  | .tlogAA => 0xAA
  | .tlogAB => 0xAB
  | .tlogAC => 0xAC
  | .tlogAD => 0xAD
  | .tlogAE => 0xAE
  | .tlogAF => 0xAF
  | .tlogB0 => 0xB0
  | .tlogB1 => 0xB1
  | .tlogB2 => 0xB2
  | .tlogB3 => 0xB3
  | .tlogB4 => 0xB4
  | .tlogB5 => 0xB5
  | .tlogB6 => 0xB6
  | .tlogB7 => 0xB7
  | .tlogB8 => 0xB8
  | .tlogB9 => 0xB9
  | .tlogBA => 0xBA
  | .tlogBB => 0xBB
  | .tlogBC => 0xBC
  | .tlogBD => 0xBD
  | .tlogBE => 0xBE
  | .tlogBF => 0xBF
  | .tlogC0 => 0xC0
  | .tlogC1 => 0xC1
  | .tlogC2 => 0xC2
  | .tlogC3 => 0xC3
  | .tlogC4 => 0xC4
  | .tlogC5 => 0xC5
  | .tlogC6 => 0xC6
  | .tlogC7 => 0xC7
  | .tlogC8 => 0xC8
  | .tlogC9 => 0xC9
  | .tlogCA => 0xCA
  | .tlogCB => 0xCB
  | .tlogCC => 0xCC
  | .tlogCD => 0xCD
  | .tlogCE => 0xCE
  | .tlogCF => 0xCF
  | .tlogD0 => 0xD0
  | .tlogD1 => 0xD1
  | .tlogD2 => 0xD2
  | .tlogD3 => 0xD3
  | .tlogD4 => 0xD4
  | .tlogD5 => 0xD5
  | .tlogD6 => 0xD6
  | .tlogD7 => 0xD7
  | .tlogD8 => 0xD8
  | .tlogD9 => 0xD9
  | .tlogDA => 0xDA
  | .tlogDB => 0xDB
  | .tlogDC => 0xDC
  | .tlogDD => 0xDD
  | .tlogDE => 0xDE
  | .tlogDF => 0xDF
  | .tlogE0 => 0xE0
  | .tlogE1 => 0xE1
  | .tlogE2 => 0xE2
  | .tlogE3 => 0xE3
  | .tlogE4 => 0xE4
  | .tlogE5 => 0xE5
  | .tlogE6 => 0xE6
  | .tlogE7 => 0xE7
  | .tlogE8 => 0xE8
  | .tlogE9 => 0xE9
  | .tlogEA => 0xEA
  | .tlogEB => 0xEB
  | .tlogEC => 0xEC
  | .tlogED => 0xED
  | .tlogEE => 0xEE
  | .tlogEF => 0xEF
  | .tlogF0 => 0xF0
  | .tlogF1 => 0xF1
  | .tlogF2 => 0xF2
  | .tlogF3 => 0xF3
  | .tlogF4 => 0xF4
  | .tlogF5 => 0xF5
  | .tlogF6 => 0xF6
  | .tlogF7 => 0xF7
  | .tlogF8 => 0xF8
  | .tlogF9 => 0xF9
  | .tlogFA => 0xFA
  | .tlogFB => 0xFB
  | .tlogFC => 0xFC
  | .tlogFD => 0xFD
  | .tlogFE => 0xFE
  | .tlogFF => 0xFF
  | .rentryAbc _ => 0x000
  | .rentryBac _ => 0x100
  | .rentryAcb _ => 0x200
  | .rentryCba _ => 0x300
  | .rentryCab _ => 0x400
  | .rentryBca _ => 0x500
  | .fnodeA => 0x0
  | .fnodeB => 0x1
  | .fnodeC => 0x2
  | .fnodeOnes => 0x3
  | .fnodeNot _ => 0x4
  | .fnodeAnd _ _ => 0x5
  | .fnodeOr _ _ => 0x6
  | .fnodeXor _ _ => 0x7

/-- The encoding of an instruction has the fixed bits of its row (R61). -/
abbrev TableRow.Statement (i : Instr) : Prop := encodedNumber (encode i) &&& rowMask i = rowMatch i

/-- The first tag of a tag string is what the mask of format FNODE leaves (R57). -/
theorem firstTag_masked (tag : Tag) (n : Nat) : (tag.toNat + 8 * n) &&& 7 = tag.toNat := by
  have h : tag.toNat < 8 := tag.isLt
  rw [show (7 : Nat) = 2 ^ 3 - 1 from rfl, Nat.and_two_pow_sub_one_eq_mod]
  omega

theorem TableRow.tlog00 : TableRow.Statement .tlog00 := rfl
theorem TableRow.tlog01 : TableRow.Statement .tlog01 := rfl
theorem TableRow.tlog02 : TableRow.Statement .tlog02 := rfl
theorem TableRow.tlog03 : TableRow.Statement .tlog03 := rfl
theorem TableRow.tlog04 : TableRow.Statement .tlog04 := rfl
theorem TableRow.tlog05 : TableRow.Statement .tlog05 := rfl
theorem TableRow.tlog06 : TableRow.Statement .tlog06 := rfl
theorem TableRow.tlog07 : TableRow.Statement .tlog07 := rfl
theorem TableRow.tlog08 : TableRow.Statement .tlog08 := rfl
theorem TableRow.tlog09 : TableRow.Statement .tlog09 := rfl
theorem TableRow.tlog0A : TableRow.Statement .tlog0A := rfl
theorem TableRow.tlog0B : TableRow.Statement .tlog0B := rfl
theorem TableRow.tlog0C : TableRow.Statement .tlog0C := rfl
theorem TableRow.tlog0D : TableRow.Statement .tlog0D := rfl
theorem TableRow.tlog0E : TableRow.Statement .tlog0E := rfl
theorem TableRow.tlog0F : TableRow.Statement .tlog0F := rfl
theorem TableRow.tlog10 : TableRow.Statement .tlog10 := rfl
theorem TableRow.tlog11 : TableRow.Statement .tlog11 := rfl
theorem TableRow.tlog12 : TableRow.Statement .tlog12 := rfl
theorem TableRow.tlog13 : TableRow.Statement .tlog13 := rfl
theorem TableRow.tlog14 : TableRow.Statement .tlog14 := rfl
theorem TableRow.tlog15 : TableRow.Statement .tlog15 := rfl
theorem TableRow.tlog16 : TableRow.Statement .tlog16 := rfl
theorem TableRow.tlog17 : TableRow.Statement .tlog17 := rfl
theorem TableRow.tlog18 : TableRow.Statement .tlog18 := rfl
theorem TableRow.tlog19 : TableRow.Statement .tlog19 := rfl
theorem TableRow.tlog1A : TableRow.Statement .tlog1A := rfl
theorem TableRow.tlog1B : TableRow.Statement .tlog1B := rfl
theorem TableRow.tlog1C : TableRow.Statement .tlog1C := rfl
theorem TableRow.tlog1D : TableRow.Statement .tlog1D := rfl
theorem TableRow.tlog1E : TableRow.Statement .tlog1E := rfl
theorem TableRow.tlog1F : TableRow.Statement .tlog1F := rfl
theorem TableRow.tlog20 : TableRow.Statement .tlog20 := rfl
theorem TableRow.tlog21 : TableRow.Statement .tlog21 := rfl
theorem TableRow.tlog22 : TableRow.Statement .tlog22 := rfl
theorem TableRow.tlog23 : TableRow.Statement .tlog23 := rfl
theorem TableRow.tlog24 : TableRow.Statement .tlog24 := rfl
theorem TableRow.tlog25 : TableRow.Statement .tlog25 := rfl
theorem TableRow.tlog26 : TableRow.Statement .tlog26 := rfl
theorem TableRow.tlog27 : TableRow.Statement .tlog27 := rfl
theorem TableRow.tlog28 : TableRow.Statement .tlog28 := rfl
theorem TableRow.tlog29 : TableRow.Statement .tlog29 := rfl
theorem TableRow.tlog2A : TableRow.Statement .tlog2A := rfl
theorem TableRow.tlog2B : TableRow.Statement .tlog2B := rfl
theorem TableRow.tlog2C : TableRow.Statement .tlog2C := rfl
theorem TableRow.tlog2D : TableRow.Statement .tlog2D := rfl
theorem TableRow.tlog2E : TableRow.Statement .tlog2E := rfl
theorem TableRow.tlog2F : TableRow.Statement .tlog2F := rfl
theorem TableRow.tlog30 : TableRow.Statement .tlog30 := rfl
theorem TableRow.tlog31 : TableRow.Statement .tlog31 := rfl
theorem TableRow.tlog32 : TableRow.Statement .tlog32 := rfl
theorem TableRow.tlog33 : TableRow.Statement .tlog33 := rfl
theorem TableRow.tlog34 : TableRow.Statement .tlog34 := rfl
theorem TableRow.tlog35 : TableRow.Statement .tlog35 := rfl
theorem TableRow.tlog36 : TableRow.Statement .tlog36 := rfl
theorem TableRow.tlog37 : TableRow.Statement .tlog37 := rfl
theorem TableRow.tlog38 : TableRow.Statement .tlog38 := rfl
theorem TableRow.tlog39 : TableRow.Statement .tlog39 := rfl
theorem TableRow.tlog3A : TableRow.Statement .tlog3A := rfl
theorem TableRow.tlog3B : TableRow.Statement .tlog3B := rfl
theorem TableRow.tlog3C : TableRow.Statement .tlog3C := rfl
theorem TableRow.tlog3D : TableRow.Statement .tlog3D := rfl
theorem TableRow.tlog3E : TableRow.Statement .tlog3E := rfl
theorem TableRow.tlog3F : TableRow.Statement .tlog3F := rfl
theorem TableRow.tlog40 : TableRow.Statement .tlog40 := rfl
theorem TableRow.tlog41 : TableRow.Statement .tlog41 := rfl
theorem TableRow.tlog42 : TableRow.Statement .tlog42 := rfl
theorem TableRow.tlog43 : TableRow.Statement .tlog43 := rfl
theorem TableRow.tlog44 : TableRow.Statement .tlog44 := rfl
theorem TableRow.tlog45 : TableRow.Statement .tlog45 := rfl
theorem TableRow.tlog46 : TableRow.Statement .tlog46 := rfl
theorem TableRow.tlog47 : TableRow.Statement .tlog47 := rfl
theorem TableRow.tlog48 : TableRow.Statement .tlog48 := rfl
theorem TableRow.tlog49 : TableRow.Statement .tlog49 := rfl
theorem TableRow.tlog4A : TableRow.Statement .tlog4A := rfl
theorem TableRow.tlog4B : TableRow.Statement .tlog4B := rfl
theorem TableRow.tlog4C : TableRow.Statement .tlog4C := rfl
theorem TableRow.tlog4D : TableRow.Statement .tlog4D := rfl
theorem TableRow.tlog4E : TableRow.Statement .tlog4E := rfl
theorem TableRow.tlog4F : TableRow.Statement .tlog4F := rfl
theorem TableRow.tlog50 : TableRow.Statement .tlog50 := rfl
theorem TableRow.tlog51 : TableRow.Statement .tlog51 := rfl
theorem TableRow.tlog52 : TableRow.Statement .tlog52 := rfl
theorem TableRow.tlog53 : TableRow.Statement .tlog53 := rfl
theorem TableRow.tlog54 : TableRow.Statement .tlog54 := rfl
theorem TableRow.tlog55 : TableRow.Statement .tlog55 := rfl
theorem TableRow.tlog56 : TableRow.Statement .tlog56 := rfl
theorem TableRow.tlog57 : TableRow.Statement .tlog57 := rfl
theorem TableRow.tlog58 : TableRow.Statement .tlog58 := rfl
theorem TableRow.tlog59 : TableRow.Statement .tlog59 := rfl
theorem TableRow.tlog5A : TableRow.Statement .tlog5A := rfl
theorem TableRow.tlog5B : TableRow.Statement .tlog5B := rfl
theorem TableRow.tlog5C : TableRow.Statement .tlog5C := rfl
theorem TableRow.tlog5D : TableRow.Statement .tlog5D := rfl
theorem TableRow.tlog5E : TableRow.Statement .tlog5E := rfl
theorem TableRow.tlog5F : TableRow.Statement .tlog5F := rfl
theorem TableRow.tlog60 : TableRow.Statement .tlog60 := rfl
theorem TableRow.tlog61 : TableRow.Statement .tlog61 := rfl
theorem TableRow.tlog62 : TableRow.Statement .tlog62 := rfl
theorem TableRow.tlog63 : TableRow.Statement .tlog63 := rfl
theorem TableRow.tlog64 : TableRow.Statement .tlog64 := rfl
theorem TableRow.tlog65 : TableRow.Statement .tlog65 := rfl
theorem TableRow.tlog66 : TableRow.Statement .tlog66 := rfl
theorem TableRow.tlog67 : TableRow.Statement .tlog67 := rfl
theorem TableRow.tlog68 : TableRow.Statement .tlog68 := rfl
theorem TableRow.tlog69 : TableRow.Statement .tlog69 := rfl
theorem TableRow.tlog6A : TableRow.Statement .tlog6A := rfl
theorem TableRow.tlog6B : TableRow.Statement .tlog6B := rfl
theorem TableRow.tlog6C : TableRow.Statement .tlog6C := rfl
theorem TableRow.tlog6D : TableRow.Statement .tlog6D := rfl
theorem TableRow.tlog6E : TableRow.Statement .tlog6E := rfl
theorem TableRow.tlog6F : TableRow.Statement .tlog6F := rfl
theorem TableRow.tlog70 : TableRow.Statement .tlog70 := rfl
theorem TableRow.tlog71 : TableRow.Statement .tlog71 := rfl
theorem TableRow.tlog72 : TableRow.Statement .tlog72 := rfl
theorem TableRow.tlog73 : TableRow.Statement .tlog73 := rfl
theorem TableRow.tlog74 : TableRow.Statement .tlog74 := rfl
theorem TableRow.tlog75 : TableRow.Statement .tlog75 := rfl
theorem TableRow.tlog76 : TableRow.Statement .tlog76 := rfl
theorem TableRow.tlog77 : TableRow.Statement .tlog77 := rfl
theorem TableRow.tlog78 : TableRow.Statement .tlog78 := rfl
theorem TableRow.tlog79 : TableRow.Statement .tlog79 := rfl
theorem TableRow.tlog7A : TableRow.Statement .tlog7A := rfl
theorem TableRow.tlog7B : TableRow.Statement .tlog7B := rfl
theorem TableRow.tlog7C : TableRow.Statement .tlog7C := rfl
theorem TableRow.tlog7D : TableRow.Statement .tlog7D := rfl
theorem TableRow.tlog7E : TableRow.Statement .tlog7E := rfl
theorem TableRow.tlog7F : TableRow.Statement .tlog7F := rfl
theorem TableRow.tlog80 : TableRow.Statement .tlog80 := rfl
theorem TableRow.tlog81 : TableRow.Statement .tlog81 := rfl
theorem TableRow.tlog82 : TableRow.Statement .tlog82 := rfl
theorem TableRow.tlog83 : TableRow.Statement .tlog83 := rfl
theorem TableRow.tlog84 : TableRow.Statement .tlog84 := rfl
theorem TableRow.tlog85 : TableRow.Statement .tlog85 := rfl
theorem TableRow.tlog86 : TableRow.Statement .tlog86 := rfl
theorem TableRow.tlog87 : TableRow.Statement .tlog87 := rfl
theorem TableRow.tlog88 : TableRow.Statement .tlog88 := rfl
theorem TableRow.tlog89 : TableRow.Statement .tlog89 := rfl
theorem TableRow.tlog8A : TableRow.Statement .tlog8A := rfl
theorem TableRow.tlog8B : TableRow.Statement .tlog8B := rfl
theorem TableRow.tlog8C : TableRow.Statement .tlog8C := rfl
theorem TableRow.tlog8D : TableRow.Statement .tlog8D := rfl
theorem TableRow.tlog8E : TableRow.Statement .tlog8E := rfl
theorem TableRow.tlog8F : TableRow.Statement .tlog8F := rfl
theorem TableRow.tlog90 : TableRow.Statement .tlog90 := rfl
theorem TableRow.tlog91 : TableRow.Statement .tlog91 := rfl
theorem TableRow.tlog92 : TableRow.Statement .tlog92 := rfl
theorem TableRow.tlog93 : TableRow.Statement .tlog93 := rfl
theorem TableRow.tlog94 : TableRow.Statement .tlog94 := rfl
theorem TableRow.tlog95 : TableRow.Statement .tlog95 := rfl
theorem TableRow.tlog96 : TableRow.Statement .tlog96 := rfl
theorem TableRow.tlog97 : TableRow.Statement .tlog97 := rfl
theorem TableRow.tlog98 : TableRow.Statement .tlog98 := rfl
theorem TableRow.tlog99 : TableRow.Statement .tlog99 := rfl
theorem TableRow.tlog9A : TableRow.Statement .tlog9A := rfl
theorem TableRow.tlog9B : TableRow.Statement .tlog9B := rfl
theorem TableRow.tlog9C : TableRow.Statement .tlog9C := rfl
theorem TableRow.tlog9D : TableRow.Statement .tlog9D := rfl
theorem TableRow.tlog9E : TableRow.Statement .tlog9E := rfl
theorem TableRow.tlog9F : TableRow.Statement .tlog9F := rfl
theorem TableRow.tlogA0 : TableRow.Statement .tlogA0 := rfl
theorem TableRow.tlogA1 : TableRow.Statement .tlogA1 := rfl
theorem TableRow.tlogA2 : TableRow.Statement .tlogA2 := rfl
theorem TableRow.tlogA3 : TableRow.Statement .tlogA3 := rfl
theorem TableRow.tlogA4 : TableRow.Statement .tlogA4 := rfl
theorem TableRow.tlogA5 : TableRow.Statement .tlogA5 := rfl
theorem TableRow.tlogA6 : TableRow.Statement .tlogA6 := rfl
theorem TableRow.tlogA7 : TableRow.Statement .tlogA7 := rfl
theorem TableRow.tlogA8 : TableRow.Statement .tlogA8 := rfl
theorem TableRow.tlogA9 : TableRow.Statement .tlogA9 := rfl
theorem TableRow.tlogAA : TableRow.Statement .tlogAA := rfl
theorem TableRow.tlogAB : TableRow.Statement .tlogAB := rfl
theorem TableRow.tlogAC : TableRow.Statement .tlogAC := rfl
theorem TableRow.tlogAD : TableRow.Statement .tlogAD := rfl
theorem TableRow.tlogAE : TableRow.Statement .tlogAE := rfl
theorem TableRow.tlogAF : TableRow.Statement .tlogAF := rfl
theorem TableRow.tlogB0 : TableRow.Statement .tlogB0 := rfl
theorem TableRow.tlogB1 : TableRow.Statement .tlogB1 := rfl
theorem TableRow.tlogB2 : TableRow.Statement .tlogB2 := rfl
theorem TableRow.tlogB3 : TableRow.Statement .tlogB3 := rfl
theorem TableRow.tlogB4 : TableRow.Statement .tlogB4 := rfl
theorem TableRow.tlogB5 : TableRow.Statement .tlogB5 := rfl
theorem TableRow.tlogB6 : TableRow.Statement .tlogB6 := rfl
theorem TableRow.tlogB7 : TableRow.Statement .tlogB7 := rfl
theorem TableRow.tlogB8 : TableRow.Statement .tlogB8 := rfl
theorem TableRow.tlogB9 : TableRow.Statement .tlogB9 := rfl
theorem TableRow.tlogBA : TableRow.Statement .tlogBA := rfl
theorem TableRow.tlogBB : TableRow.Statement .tlogBB := rfl
theorem TableRow.tlogBC : TableRow.Statement .tlogBC := rfl
theorem TableRow.tlogBD : TableRow.Statement .tlogBD := rfl
theorem TableRow.tlogBE : TableRow.Statement .tlogBE := rfl
theorem TableRow.tlogBF : TableRow.Statement .tlogBF := rfl
theorem TableRow.tlogC0 : TableRow.Statement .tlogC0 := rfl
theorem TableRow.tlogC1 : TableRow.Statement .tlogC1 := rfl
theorem TableRow.tlogC2 : TableRow.Statement .tlogC2 := rfl
theorem TableRow.tlogC3 : TableRow.Statement .tlogC3 := rfl
theorem TableRow.tlogC4 : TableRow.Statement .tlogC4 := rfl
theorem TableRow.tlogC5 : TableRow.Statement .tlogC5 := rfl
theorem TableRow.tlogC6 : TableRow.Statement .tlogC6 := rfl
theorem TableRow.tlogC7 : TableRow.Statement .tlogC7 := rfl
theorem TableRow.tlogC8 : TableRow.Statement .tlogC8 := rfl
theorem TableRow.tlogC9 : TableRow.Statement .tlogC9 := rfl
theorem TableRow.tlogCA : TableRow.Statement .tlogCA := rfl
theorem TableRow.tlogCB : TableRow.Statement .tlogCB := rfl
theorem TableRow.tlogCC : TableRow.Statement .tlogCC := rfl
theorem TableRow.tlogCD : TableRow.Statement .tlogCD := rfl
theorem TableRow.tlogCE : TableRow.Statement .tlogCE := rfl
theorem TableRow.tlogCF : TableRow.Statement .tlogCF := rfl
theorem TableRow.tlogD0 : TableRow.Statement .tlogD0 := rfl
theorem TableRow.tlogD1 : TableRow.Statement .tlogD1 := rfl
theorem TableRow.tlogD2 : TableRow.Statement .tlogD2 := rfl
theorem TableRow.tlogD3 : TableRow.Statement .tlogD3 := rfl
theorem TableRow.tlogD4 : TableRow.Statement .tlogD4 := rfl
theorem TableRow.tlogD5 : TableRow.Statement .tlogD5 := rfl
theorem TableRow.tlogD6 : TableRow.Statement .tlogD6 := rfl
theorem TableRow.tlogD7 : TableRow.Statement .tlogD7 := rfl
theorem TableRow.tlogD8 : TableRow.Statement .tlogD8 := rfl
theorem TableRow.tlogD9 : TableRow.Statement .tlogD9 := rfl
theorem TableRow.tlogDA : TableRow.Statement .tlogDA := rfl
theorem TableRow.tlogDB : TableRow.Statement .tlogDB := rfl
theorem TableRow.tlogDC : TableRow.Statement .tlogDC := rfl
theorem TableRow.tlogDD : TableRow.Statement .tlogDD := rfl
theorem TableRow.tlogDE : TableRow.Statement .tlogDE := rfl
theorem TableRow.tlogDF : TableRow.Statement .tlogDF := rfl
theorem TableRow.tlogE0 : TableRow.Statement .tlogE0 := rfl
theorem TableRow.tlogE1 : TableRow.Statement .tlogE1 := rfl
theorem TableRow.tlogE2 : TableRow.Statement .tlogE2 := rfl
theorem TableRow.tlogE3 : TableRow.Statement .tlogE3 := rfl
theorem TableRow.tlogE4 : TableRow.Statement .tlogE4 := rfl
theorem TableRow.tlogE5 : TableRow.Statement .tlogE5 := rfl
theorem TableRow.tlogE6 : TableRow.Statement .tlogE6 := rfl
theorem TableRow.tlogE7 : TableRow.Statement .tlogE7 := rfl
theorem TableRow.tlogE8 : TableRow.Statement .tlogE8 := rfl
theorem TableRow.tlogE9 : TableRow.Statement .tlogE9 := rfl
theorem TableRow.tlogEA : TableRow.Statement .tlogEA := rfl
theorem TableRow.tlogEB : TableRow.Statement .tlogEB := rfl
theorem TableRow.tlogEC : TableRow.Statement .tlogEC := rfl
theorem TableRow.tlogED : TableRow.Statement .tlogED := rfl
theorem TableRow.tlogEE : TableRow.Statement .tlogEE := rfl
theorem TableRow.tlogEF : TableRow.Statement .tlogEF := rfl
theorem TableRow.tlogF0 : TableRow.Statement .tlogF0 := rfl
theorem TableRow.tlogF1 : TableRow.Statement .tlogF1 := rfl
theorem TableRow.tlogF2 : TableRow.Statement .tlogF2 := rfl
theorem TableRow.tlogF3 : TableRow.Statement .tlogF3 := rfl
theorem TableRow.tlogF4 : TableRow.Statement .tlogF4 := rfl
theorem TableRow.tlogF5 : TableRow.Statement .tlogF5 := rfl
theorem TableRow.tlogF6 : TableRow.Statement .tlogF6 := rfl
theorem TableRow.tlogF7 : TableRow.Statement .tlogF7 := rfl
theorem TableRow.tlogF8 : TableRow.Statement .tlogF8 := rfl
theorem TableRow.tlogF9 : TableRow.Statement .tlogF9 := rfl
theorem TableRow.tlogFA : TableRow.Statement .tlogFA := rfl
theorem TableRow.tlogFB : TableRow.Statement .tlogFB := rfl
theorem TableRow.tlogFC : TableRow.Statement .tlogFC := rfl
theorem TableRow.tlogFD : TableRow.Statement .tlogFD := rfl
theorem TableRow.tlogFE : TableRow.Statement .tlogFE := rfl
theorem TableRow.tlogFF : TableRow.Statement .tlogFF := rfl
theorem TableRow.rentryAbc (rep : Code) : TableRow.Statement (.rentryAbc rep) := by
  revert rep
  decide +kernel
theorem TableRow.rentryBac (rep : Code) : TableRow.Statement (.rentryBac rep) := by
  revert rep
  decide +kernel
theorem TableRow.rentryAcb (rep : Code) : TableRow.Statement (.rentryAcb rep) := by
  revert rep
  decide +kernel
theorem TableRow.rentryCba (rep : Code) : TableRow.Statement (.rentryCba rep) := by
  revert rep
  decide +kernel
theorem TableRow.rentryCab (rep : Code) : TableRow.Statement (.rentryCab rep) := by
  revert rep
  decide +kernel
theorem TableRow.rentryBca (rep : Code) : TableRow.Statement (.rentryBca rep) := by
  revert rep
  decide +kernel
theorem TableRow.fnodeA : TableRow.Statement .fnodeA := rfl
theorem TableRow.fnodeB : TableRow.Statement .fnodeB := rfl
theorem TableRow.fnodeC : TableRow.Statement .fnodeC := rfl
theorem TableRow.fnodeOnes : TableRow.Statement .fnodeOnes := rfl
theorem TableRow.fnodeNot (f : Formula) : TableRow.Statement (.fnodeNot f) := firstTag_masked _ _
theorem TableRow.fnodeAnd (f g : Formula) : TableRow.Statement (.fnodeAnd f g) := firstTag_masked _ _
theorem TableRow.fnodeOr (f g : Formula) : TableRow.Statement (.fnodeOr f g) := firstTag_masked _ _
theorem TableRow.fnodeXor (f g : Formula) : TableRow.Statement (.fnodeXor f g) := firstTag_masked _ _

end Sys2Proof.Laws
end

