-- ==== Sys2Proof/Laws/Table.lean ====
section
/-! SUPPORT. The memory of the reduction table: what a published image holds, and its canonical form. -/

namespace Sys2Proof.Laws

open Sys2Proof.Machine

/-- An image from an index on lists exactly the indices of its words. -/
theorem imageFrom_indices (n : Nat) (words : List EntryWord) :
    (Memory.imageFrom n words).map Prod.fst = List.range' n words.length := by
  induction words generalizing n with
  | nil => rfl
  | cons word rest ih => simp [Memory.imageFrom, ih, List.range'_succ]

/-- Below its first index an image holds nothing. -/
theorem imageFrom_read_below (n index : Nat) (words : List EntryWord) (h : index < n) :
    (Memory.imageFrom n words).read index = none := by
  induction words generalizing n with
  | nil => rfl
  | cons word rest ih =>
    have hne : (index == n) = false := by simp; omega
    simpa [Memory.imageFrom, Memory.read, List.lookup, hne] using ih (n + 1) (by omega)

/-- From its first index on an image holds its words in order. -/
theorem imageFrom_read (n index : Nat) (words : List EntryWord) :
    (Memory.imageFrom n words).read (n + index) = words[index]? := by
  induction words generalizing n index with
  | nil => rfl
  | cons word rest ih =>
    cases index with
    | zero => simp [Memory.imageFrom, Memory.read]
    | succ index =>
      have hne : (n + (index + 1) == n) = false := by simp
      have h := ih (n + 1) index
      rw [show n + 1 + index = n + (index + 1) by omega] at h
      simpa [Memory.imageFrom, Memory.read, List.lookup, hne] using h

/-- What a published image answers to a read (R32). -/
theorem image_read (words : List EntryWord) (index : Nat) : (Memory.image words).read index = words[index]? := by
  simpa [Memory.image] using imageFrom_read 0 index words

/-- A published image of at most 256 words is in canonical form. -/
theorem image_wf (words : List EntryWord) (h : words.length ≤ 256) : (Memory.image words).wf := by
  refine ⟨?_, ?_⟩
  · rw [Memory.image, imageFrom_indices]
    exact List.pairwise_lt_range'
  · intro index hi
    rw [Memory.image, imageFrom_indices] at hi
    have := List.mem_range'_1.mp hi
    omega

end Sys2Proof.Laws
end

