-- ==== Sys2Proof/Tests/Slice0.lean ====
section
/-! SUPPORT. Tests of the model: words and results copied from the spec (30_encoding.md, 95_test_vectors.md), and for every statement
with hypotheses a theorem that meets them. -/

set_option Elab.async false

namespace Sys2Proof.Tests

open Sys2Proof.Machine

/-! ## Helpers -/

/-- A block of the default configuration with some widths. -/
def block (w selw : Nat) : Block w selw := Block.initial defaultConfig (Memory.image romDefault)

/-- The same as a state. -/
def machine (w selw : Nat) : State := ⟨w, selw, block w selw⟩

/-- What a step answers, in numbers: the result, or the selector of the fault; nothing for another end. -/
def numbers (o : Host.Outcome State Fault Refusal) : Option (Nat ⊕ Nat) :=
  match o with
  | .next t => some (.inl t.block.r.toNat)
  | .fault (.invalidCode n) => some (.inr n)
  | .fault (.incompleteCoverage _) => none
  | .refused _ => none

/-- The numbers of the evaluations of a list of selectors on the same three operands. -/
def results (w selw a b c : Nat) (sels : List Nat) : List (Option (Nat ⊕ Nat)) :=
  sels.map fun sel =>
    numbers (evaluationOf (machine w selw) (BitVec.ofNat selw sel) ⟨BitVec.ofNat w a, BitVec.ofNat w b, BitVec.ofNat w c⟩)

/-- Results without a fault. -/
def values (l : List Nat) : List (Option (Nat ⊕ Nat)) := l.map fun n => some (.inl n)

/-- Why an instance could not be made. -/
def refusal (o : Host.Outcome State Fault Refusal) : Option (Fault ⊕ Refusal) :=
  match o with
  | .next _ => none
  | .fault f => some (.inl f)
  | .refused r => some (.inr r)

/-! ## Decoding: the selector of every TLOG row, the word of every RENTRY row, the tag of every FNODE row -/

/-- Selectors 0x00 to 0x0F (R48). -/
theorem test_decode_tlog_00_to_0F :
    [0x00, 0x01, 0x02, 0x03, 0x04, 0x05, 0x06, 0x07, 0x08, 0x09, 0x0A, 0x0B, 0x0C, 0x0D, 0x0E, 0x0F].map (fun n => (decode (.cmd n)).toOption) =
      [.tlog00, .tlog01, .tlog02, .tlog03, .tlog04, .tlog05, .tlog06, .tlog07,
        .tlog08, .tlog09, .tlog0A, .tlog0B, .tlog0C, .tlog0D, .tlog0E, .tlog0F].map some := by
  decide +kernel

/-- Selectors 0x10 to 0x1F (R48). -/
theorem test_decode_tlog_10_to_1F :
    [0x10, 0x11, 0x12, 0x13, 0x14, 0x15, 0x16, 0x17, 0x18, 0x19, 0x1A, 0x1B, 0x1C, 0x1D, 0x1E, 0x1F].map (fun n => (decode (.cmd n)).toOption) =
      [.tlog10, .tlog11, .tlog12, .tlog13, .tlog14, .tlog15, .tlog16, .tlog17,
        .tlog18, .tlog19, .tlog1A, .tlog1B, .tlog1C, .tlog1D, .tlog1E, .tlog1F].map some := by
  decide +kernel

/-- Selectors 0x20 to 0x2F (R48). -/
theorem test_decode_tlog_20_to_2F :
    [0x20, 0x21, 0x22, 0x23, 0x24, 0x25, 0x26, 0x27, 0x28, 0x29, 0x2A, 0x2B, 0x2C, 0x2D, 0x2E, 0x2F].map (fun n => (decode (.cmd n)).toOption) =
      [.tlog20, .tlog21, .tlog22, .tlog23, .tlog24, .tlog25, .tlog26, .tlog27,
        .tlog28, .tlog29, .tlog2A, .tlog2B, .tlog2C, .tlog2D, .tlog2E, .tlog2F].map some := by
  decide +kernel

/-- Selectors 0x30 to 0x3F (R48). -/
theorem test_decode_tlog_30_to_3F :
    [0x30, 0x31, 0x32, 0x33, 0x34, 0x35, 0x36, 0x37, 0x38, 0x39, 0x3A, 0x3B, 0x3C, 0x3D, 0x3E, 0x3F].map (fun n => (decode (.cmd n)).toOption) =
      [.tlog30, .tlog31, .tlog32, .tlog33, .tlog34, .tlog35, .tlog36, .tlog37,
        .tlog38, .tlog39, .tlog3A, .tlog3B, .tlog3C, .tlog3D, .tlog3E, .tlog3F].map some := by
  decide +kernel

/-- Selectors 0x40 to 0x4F (R48). -/
theorem test_decode_tlog_40_to_4F :
    [0x40, 0x41, 0x42, 0x43, 0x44, 0x45, 0x46, 0x47, 0x48, 0x49, 0x4A, 0x4B, 0x4C, 0x4D, 0x4E, 0x4F].map (fun n => (decode (.cmd n)).toOption) =
      [.tlog40, .tlog41, .tlog42, .tlog43, .tlog44, .tlog45, .tlog46, .tlog47,
        .tlog48, .tlog49, .tlog4A, .tlog4B, .tlog4C, .tlog4D, .tlog4E, .tlog4F].map some := by
  decide +kernel

/-- Selectors 0x50 to 0x5F (R48). -/
theorem test_decode_tlog_50_to_5F :
    [0x50, 0x51, 0x52, 0x53, 0x54, 0x55, 0x56, 0x57, 0x58, 0x59, 0x5A, 0x5B, 0x5C, 0x5D, 0x5E, 0x5F].map (fun n => (decode (.cmd n)).toOption) =
      [.tlog50, .tlog51, .tlog52, .tlog53, .tlog54, .tlog55, .tlog56, .tlog57,
        .tlog58, .tlog59, .tlog5A, .tlog5B, .tlog5C, .tlog5D, .tlog5E, .tlog5F].map some := by
  decide +kernel

/-- Selectors 0x60 to 0x6F (R48). -/
theorem test_decode_tlog_60_to_6F :
    [0x60, 0x61, 0x62, 0x63, 0x64, 0x65, 0x66, 0x67, 0x68, 0x69, 0x6A, 0x6B, 0x6C, 0x6D, 0x6E, 0x6F].map (fun n => (decode (.cmd n)).toOption) =
      [.tlog60, .tlog61, .tlog62, .tlog63, .tlog64, .tlog65, .tlog66, .tlog67,
        .tlog68, .tlog69, .tlog6A, .tlog6B, .tlog6C, .tlog6D, .tlog6E, .tlog6F].map some := by
  decide +kernel

/-- Selectors 0x70 to 0x7F (R48). -/
theorem test_decode_tlog_70_to_7F :
    [0x70, 0x71, 0x72, 0x73, 0x74, 0x75, 0x76, 0x77, 0x78, 0x79, 0x7A, 0x7B, 0x7C, 0x7D, 0x7E, 0x7F].map (fun n => (decode (.cmd n)).toOption) =
      [.tlog70, .tlog71, .tlog72, .tlog73, .tlog74, .tlog75, .tlog76, .tlog77,
        .tlog78, .tlog79, .tlog7A, .tlog7B, .tlog7C, .tlog7D, .tlog7E, .tlog7F].map some := by
  decide +kernel

/-- Selectors 0x80 to 0x8F (R48). -/
theorem test_decode_tlog_80_to_8F :
    [0x80, 0x81, 0x82, 0x83, 0x84, 0x85, 0x86, 0x87, 0x88, 0x89, 0x8A, 0x8B, 0x8C, 0x8D, 0x8E, 0x8F].map (fun n => (decode (.cmd n)).toOption) =
      [.tlog80, .tlog81, .tlog82, .tlog83, .tlog84, .tlog85, .tlog86, .tlog87,
        .tlog88, .tlog89, .tlog8A, .tlog8B, .tlog8C, .tlog8D, .tlog8E, .tlog8F].map some := by
  decide +kernel

/-- Selectors 0x90 to 0x9F (R48). -/
theorem test_decode_tlog_90_to_9F :
    [0x90, 0x91, 0x92, 0x93, 0x94, 0x95, 0x96, 0x97, 0x98, 0x99, 0x9A, 0x9B, 0x9C, 0x9D, 0x9E, 0x9F].map (fun n => (decode (.cmd n)).toOption) =
      [.tlog90, .tlog91, .tlog92, .tlog93, .tlog94, .tlog95, .tlog96, .tlog97,
        .tlog98, .tlog99, .tlog9A, .tlog9B, .tlog9C, .tlog9D, .tlog9E, .tlog9F].map some := by
  decide +kernel

/-- Selectors 0xA0 to 0xAF (R48). -/
theorem test_decode_tlog_A0_to_AF :
    [0xA0, 0xA1, 0xA2, 0xA3, 0xA4, 0xA5, 0xA6, 0xA7, 0xA8, 0xA9, 0xAA, 0xAB, 0xAC, 0xAD, 0xAE, 0xAF].map (fun n => (decode (.cmd n)).toOption) =
      [.tlogA0, .tlogA1, .tlogA2, .tlogA3, .tlogA4, .tlogA5, .tlogA6, .tlogA7,
        .tlogA8, .tlogA9, .tlogAA, .tlogAB, .tlogAC, .tlogAD, .tlogAE, .tlogAF].map some := by
  decide +kernel

/-- Selectors 0xB0 to 0xBF (R48). -/
theorem test_decode_tlog_B0_to_BF :
    [0xB0, 0xB1, 0xB2, 0xB3, 0xB4, 0xB5, 0xB6, 0xB7, 0xB8, 0xB9, 0xBA, 0xBB, 0xBC, 0xBD, 0xBE, 0xBF].map (fun n => (decode (.cmd n)).toOption) =
      [.tlogB0, .tlogB1, .tlogB2, .tlogB3, .tlogB4, .tlogB5, .tlogB6, .tlogB7,
        .tlogB8, .tlogB9, .tlogBA, .tlogBB, .tlogBC, .tlogBD, .tlogBE, .tlogBF].map some := by
  decide +kernel

/-- Selectors 0xC0 to 0xCF (R48). -/
theorem test_decode_tlog_C0_to_CF :
    [0xC0, 0xC1, 0xC2, 0xC3, 0xC4, 0xC5, 0xC6, 0xC7, 0xC8, 0xC9, 0xCA, 0xCB, 0xCC, 0xCD, 0xCE, 0xCF].map (fun n => (decode (.cmd n)).toOption) =
      [.tlogC0, .tlogC1, .tlogC2, .tlogC3, .tlogC4, .tlogC5, .tlogC6, .tlogC7,
        .tlogC8, .tlogC9, .tlogCA, .tlogCB, .tlogCC, .tlogCD, .tlogCE, .tlogCF].map some := by
  decide +kernel

/-- Selectors 0xD0 to 0xDF (R48). -/
theorem test_decode_tlog_D0_to_DF :
    [0xD0, 0xD1, 0xD2, 0xD3, 0xD4, 0xD5, 0xD6, 0xD7, 0xD8, 0xD9, 0xDA, 0xDB, 0xDC, 0xDD, 0xDE, 0xDF].map (fun n => (decode (.cmd n)).toOption) =
      [.tlogD0, .tlogD1, .tlogD2, .tlogD3, .tlogD4, .tlogD5, .tlogD6, .tlogD7,
        .tlogD8, .tlogD9, .tlogDA, .tlogDB, .tlogDC, .tlogDD, .tlogDE, .tlogDF].map some := by
  decide +kernel

/-- Selectors 0xE0 to 0xEF (R48). -/
theorem test_decode_tlog_E0_to_EF :
    [0xE0, 0xE1, 0xE2, 0xE3, 0xE4, 0xE5, 0xE6, 0xE7, 0xE8, 0xE9, 0xEA, 0xEB, 0xEC, 0xED, 0xEE, 0xEF].map (fun n => (decode (.cmd n)).toOption) =
      [.tlogE0, .tlogE1, .tlogE2, .tlogE3, .tlogE4, .tlogE5, .tlogE6, .tlogE7,
        .tlogE8, .tlogE9, .tlogEA, .tlogEB, .tlogEC, .tlogED, .tlogEE, .tlogEF].map some := by
  decide +kernel

/-- Selectors 0xF0 to 0xFF (R48). -/
theorem test_decode_tlog_F0_to_FF :
    [0xF0, 0xF1, 0xF2, 0xF3, 0xF4, 0xF5, 0xF6, 0xF7, 0xF8, 0xF9, 0xFA, 0xFB, 0xFC, 0xFD, 0xFE, 0xFF].map (fun n => (decode (.cmd n)).toOption) =
      [.tlogF0, .tlogF1, .tlogF2, .tlogF3, .tlogF4, .tlogF5, .tlogF6, .tlogF7,
        .tlogF8, .tlogF9, .tlogFA, .tlogFB, .tlogFC, .tlogFD, .tlogFE, .tlogFF].map some := by
  decide +kernel

/-- R55: the six numbers in bits 10 to 8, here over `rep = 0x2D` = 00101101. -/
theorem test_decode_rentry :
    [0b00000101101#11, 0b00100101101#11, 0b01000101101#11, 0b01100101101#11, 0b10000101101#11, 0b10100101101#11].map
        (fun word => (decode (.rentry word)).toOption) =
      [.rentryAbc 0x2D, .rentryBac 0x2D, .rentryAcb 0x2D, .rentryCba 0x2D, .rentryCab 0x2D, .rentryBca 0x2D].map some := by
  decide +kernel

/-- R57: the eight tags, with the children that follow them. -/
theorem test_decode_fnode :
    [[0b000#3], [0b001#3], [0b010#3], [0b011#3], [0b100#3, 0b010#3], [0b101#3, 0b010#3, 0b100#3, 0b000#3],
        [0b110#3, 0b000#3, 0b001#3], [0b111#3, 0b001#3, 0b011#3]].map (fun tags => (decode (.fnode tags)).toOption) =
      [.fnodeA, .fnodeB, .fnodeC, .fnodeOnes, .fnodeNot .c, .fnodeAnd .c (.not .a), .fnodeOr .a .b,
        .fnodeXor .b .ones].map some := by
  decide +kernel

/-- The ROM words of V74 read back. -/
theorem test_rom_words_decode :
    [0x00A#11, 0x20A#11, 0x10A#11, 0x50A#11, 0x40A#11, 0x30A#11].map entryOfWord =
      [⟨0x0A, .abc⟩, ⟨0x0A, .acb⟩, ⟨0x0A, .bac⟩, ⟨0x0A, .bca⟩, ⟨0x0A, .cab⟩, ⟨0x0A, .cba⟩].map some := by
  decide +kernel

/-- What does not decode: a selector above 255 (R49), `perm` 6 and 7 (R58), an unfinished tag string (R57). -/
theorem test_decode_refuses :
    [Encoded.cmd 0x100, .rentry 0b11000000000#11, .rentry 0b11111111111#11, .fnode [], .fnode [0b101#3, 0b000#3]].map
        (fun e => (decode e).toOption) = [none, none, none, none, none] := by
  decide +kernel

/-- A row's bits as the opcode table numbers them (log 8). -/
theorem test_decodeTableWord :
    [(8, 0x1B), (16, 0x52C), (3, 0), (3, 7), (16, 0x600), (8, 0x100)].map (fun p => decodeTableWord p.1 p.2) =
      [some .tlog1B, some (.rentryBca 0x2C), some .fnodeA, some (.fnodeXor .a .a), none, none] := by
  decide +kernel

/-- R57's example and V28's tags. -/
theorem test_formula_tags :
    formulaTags (.xor .a (.xor .b .c)) = [7, 0, 7, 1, 2] ∧
      formulaTags (.and (.or .a (.and .b .c)) (.or .b .c)) = [5, 6, 0, 5, 1, 2, 6, 1, 2] := by
  decide +kernel

/-! ## Well-formedness: every check refuses something -/

/-- `rep` must be in the Primary set (R58): 0x0C is not in the default set, 0x0A is. -/
theorem test_wellFormed_rep :
    instrWellFormed primaryDefault (.rentryAcb 0x0C) = false ∧ instrWellFormed primaryDefault (.rentryAcb 0x0A) = true := by
  decide +kernel

/-- The selector of TLOG.FF does not fit a port of 7 bits (R48). -/
theorem test_encodedFits : encodedFits 7 (encode .tlogFF) = false ∧ encodedFits 8 (encode .tlogFF) = true := by
  decide +kernel

/-- A configuration with the formula of another code (V130). -/
def wrong0A : Config := { library := [(0x00#8, .not .ones), (0x0A#8, .and .a (.not .c))], nativeLut := false }

/-- A configuration of two entries in the wrong order. -/
def unsorted : Config := { library := [(0xFF#8, .ones), (0x00#8, .not .ones)], nativeLut := false }

/-- A configuration of an entry that stands twice. -/
def doubled : Config := { library := [(0xFF#8, .ones), (0xFF#8, .ones)], nativeLut := false }

/-- A configuration that has only the orbit of 0x00 (V80). -/
def only00 : Config := { library := [(0x00#8, .not .ones)], nativeLut := false }

/-- `W >= 1`, `SELW >= 8`, one form of the library, the formula check of V130, the coverage check of V80. -/
theorem test_instantiate_refuses :
    [instantiate 0 8 defaultConfig, instantiate 8 7 defaultConfig, instantiate 8 8 unsorted, instantiate 8 8 doubled,
        instantiate 8 8 wrong0A, instantiate 8 8 only00].map refusal =
      [.inr .zeroWidth, .inr (.narrowSelector 7), .inr .malformedLibrary, .inr .malformedLibrary, .inr (.wrongFormula 0x0A),
        .inl (.incompleteCoverage 0x01)].map some := by
  decide +kernel

/-! ## The ALU, formulas and permutations -/

/-- V1 to V6, V12, V16, V18. -/
theorem test_alu :
    vAnd 0xAA#8 0xCC#8 = 0x88#8 ∧ vOr 0xAA#8 0xCC#8 = 0xEE#8 ∧ vXor 0xAA#8 0xCC#8 = 0x66#8 ∧ vNot 0xAA#8 = 0x55#8 ∧
      vOnes 8 = 0xFF#8 ∧ vNot 0x00#8 = 0xFF#8 ∧ vNot 0#1 = 1#1 ∧ vXor 0xDEADBEEF#32 0x01234567#32 = 0xDF8EFB88#32 ∧
      vNot 0x0F0#12 = 0xF0F#12 := by
  decide +kernel

/-- V23 to V30: `tt`, and the value on (0x3C, 0xA5, 0x0F). -/
theorem test_formulas :
    [Formula.not .ones, .not .a, .and .c (.not .a), .xor (.xor .a .b) .c, .and (.or .a (.and .b .c)) (.or .b .c),
        .xor (.and .a (.xor .b .c)) .b].map (fun f => (tt f, eval f (⟨0x3C#8, 0xA5#8, 0x0F#8⟩ : Triple (BitVec 8)))) =
      [(0x00, 0x00), (0x0F, 0xC3), (0x0A, 0x03), (0x96, 0x96), (0xE8, 0x2D), (0xAC, 0x8D)] := by
  decide +kernel

/-- V44, V46, V50, V51, V52, V55: the images by bac, acb, cba, cab, bca. -/
theorem test_permuteCode :
    [0xF0#8, 0xAA#8, 0x0A#8, 0x1A#8, 0xCA#8, 0x02#8].map (fun k => searchOrder.map (permuteCode k)) =
      [[0xCC#8, 0xF0#8, 0xAA#8, 0xCC#8, 0xAA#8], [0xAA#8, 0xCC#8, 0xF0#8, 0xF0#8, 0xCC#8],
        [0x22#8, 0x0C#8, 0x50#8, 0x30#8, 0x44#8], [0x26#8, 0x1C#8, 0x52#8, 0x34#8, 0x46#8],
        [0xE2#8, 0xAC#8, 0xD8#8, 0xB8#8, 0xE4#8], [0x02#8, 0x04#8, 0x10#8, 0x10#8, 0x04#8]] := by
  decide +kernel

/-- V58, V59: composition, on the operands of the vectors. -/
theorem test_composition :
    permuteOperands (permuteOperands (⟨0x11, 0x22, 0x33⟩ : Triple Nat) .bac) .acb = ⟨0x22, 0x33, 0x11⟩ ∧
      permuteOperands (permuteOperands (⟨0x11, 0x22, 0x33⟩ : Triple Nat) .acb) .bac = ⟨0x33, 0x11, 0x22⟩ ∧
      composePerm .bac .acb = .bca ∧ composePerm .acb .bac = .cab := by
  decide +kernel

/-! ## Evaluations -/

/-- Sixteen codes from one on. -/
def sixteen (n : Nat) : List Nat := (List.range 16).map (n + ·)

/-- S1: on the canonical seed a code gives itself; four rows of codes. -/
theorem test_canonical_seed :
    results 8 8 0xF0 0xCC 0xAA (sixteen 0x10 ++ sixteen 0x40) = values (sixteen 0x10 ++ sixteen 0x40) ∧
      results 8 8 0xF0 0xCC 0xAA (sixteen 0xA0 ++ sixteen 0xD0) = values (sixteen 0xA0 ++ sixteen 0xD0) := by
  decide +kernel

/-- S2: the source's seed, the rows of its table for 0x1_ and 0xC_. -/
theorem test_source_seed :
    results 8 8 0xAA 0xCC 0xF0 [0x10, 0x11, 0x12, 0x13, 0x14, 0x15, 0x16, 0x17, 0x1A, 0x1B, 0xC0, 0xC5, 0xCA, 0xCE] =
      values [0x02, 0x03, 0x12, 0x13, 0x06, 0x07, 0x16, 0x17, 0x52, 0x53, 0x88, 0x8D, 0xD8, 0xDC] := by
  decide +kernel

/-- V83 to V95. -/
theorem test_evaluate_ordinary :
    results 8 8 0x3C 0xA5 0x0F [0x1B, 0x30, 0x44, 0x50, 0x0C, 0x22, 0x0A, 0xCA, 0xD8, 0xE2, 0x96, 0xE8, 0x17] =
      values [0x53, 0x18, 0xA0, 0x30, 0x81, 0x0A, 0x03, 0x27, 0x35, 0x2E, 0x96, 0x2D, 0xD2] := by
  decide +kernel

/-- V111, V114, V115, V116: one lane, twelve lanes. -/
theorem test_evaluate_widths :
    results 1 8 1 0 1 [0xCA] = values [0] ∧ results 1 8 0 0 0 [0x01] = values [1] ∧
      results 12 8 0 0 0 [0x01] = values [0xFFF] ∧ results 12 8 0xF0F 0xCCC 0xAAA [0x1B] = values [0x1B1] := by
  decide +kernel

/-- V119 to V121 at 32 lanes, V122 at 64. -/
theorem test_evaluate_wide :
    results 32 8 0xDEADBEEF 0x01234567 0x89ABCDEF [0xCA, 0xE8, 0x96] = values [0x01234567, 0x89ABCDEF, 0x56253667] ∧
      results 64 8 0x0123456789ABCDEF 0xFEDCBA9876543210 0x0F0F0F0FF0F0F0F0 [0xB8] = values [0x0F2F4F6FF9FBFDFF] := by
  decide +kernel

/-- V123 to V127: the range check, and program 5. -/
theorem test_invalid_selectors :
    results 8 9 0xF0 0xCC 0xAA [0x01B, 0x100, 0x01B, 0x1FF, 0x0FF] =
        [some (.inl 0x1B), some (.inr 256), some (.inl 0x1B), some (.inr 511), some (.inl 0xFF)] ∧
      results 8 16 1 2 3 [0x8096, 0x0096] = [some (.inr 32918), some (.inl 0x00)] := by
  decide +kernel

/-! ## Entries and formulas on their own -/

/-- A block with V84's operands on its ports. -/
def operandsBlock : Block 8 8 := (block 8 8).present 0#8 ⟨0x3C#8, 0xA5#8, 0x0F#8⟩

/-- The columns `(a', b', c')` of V84 to V89 (R99). -/
theorem test_wires :
    [Perm.abc, .bac, .acb, .cba, .cab, .bca].map (fun p => (routeEntry ⟨0x0A, p⟩ operandsBlock.operands).mux) =
      [⟨0x3C, 0xA5, 0x0F⟩, ⟨0xA5, 0x3C, 0x0F⟩, ⟨0x3C, 0x0F, 0xA5⟩, ⟨0x0F, 0xA5, 0x3C⟩, ⟨0x0F, 0x3C, 0xA5⟩,
        ⟨0xA5, 0x0F, 0x3C⟩] := by
  decide +kernel

/-- V84 to V89: the entries of the orbit of 0x0A give the results of their codes. -/
theorem test_rentry_rows :
    [Instr.rentryAbc 0x0A, .rentryBac 0x0A, .rentryAcb 0x0A, .rentryCba 0x0A, .rentryCab 0x0A, .rentryBca 0x0A].map
        (fun i => numbers (exec i ⟨8, 8, operandsBlock⟩)) = values [0x03, 0x0A, 0x81, 0x30, 0xA0, 0x18] := by
  decide +kernel

/-- An entry whose representative is outside the Primary set is refused (U8). -/
theorem test_rentry_without_formula :
    refusal (exec (.rentryAcb 0x0C) ⟨8, 8, operandsBlock⟩) = some (.inr (.noFormula 0x0C)) := by
  decide +kernel

/-- V19 to V25, V28: formulas on (0x3C, 0xA5, 0x0F). -/
theorem test_fnode_rows :
    [Instr.fnodeA, .fnodeB, .fnodeC, .fnodeOnes, .fnodeNot .a, .fnodeAnd .c (.not .a),
        .fnodeAnd (.or .a (.and .b .c)) (.or .b .c), .fnodeXor .a (.xor .b .c), .fnodeOr .a .b].map
        (fun i => numbers (exec i ⟨8, 8, operandsBlock⟩)) =
      values [0x3C, 0xA5, 0x0F, 0xFF, 0xC3, 0x03, 0x2D, 0x96, 0xBD] := by
  decide +kernel

/-- `withFetchWord` stores a row where the next step finds it: TLOG.01, RENTRY.bca 0x00 and FNODE.ONES on operands of zeros. -/
theorem test_withFetchWord :
    numbers (step (State.reset.withFetchWord 8 0x01)) = some (.inl 0xFF) ∧
      numbers (step (State.reset.withFetchWord 16 0x500)) = some (.inl 0x00) ∧
      numbers (step (State.reset.withFetchWord 3 3)) = some (.inl 0xFF) := by
  decide +kernel

/-- A number that does not fit port `sel` is not presented (log 8); on a wider port it is, and faults (R137). -/
theorem test_withFetchWord_too_wide :
    State.reset.withFetchWord 8 0x100 = State.reset ∧ numbers (step ((machine 8 9).withFetchWord 8 0x100)) = some (.inr 256) :=
  ⟨rfl, rfl⟩

/-! ## Hypotheses that are met -/

/-- The build of the default set gives the entries of the ROM image (V74). -/
theorem test_default_build : buildReductionTable primaryDefault = .ok (romDefault.filterMap entryOfWord) := by
  have h : (match buildReductionTable primaryDefault with
      | .ok es => decide (es = romDefault.filterMap entryOfWord)
      | .error _ => false) = true := by
    decide +kernel
  split at h
  · rename_i es hes
    rw [hes, of_decide_eq_true h]
  · cases h

/-- The default library is sorted and right. -/
theorem default_config_valid : Config.Valid defaultConfig := by decide +kernel

/-- The default table as it is published. -/
theorem default_table : publishedTable primaryDefault = some State.reset.block.rt := by
  rw [publishedTable, test_default_build]
  decide +kernel

/-- The state of reset is an instance of TLD. -/
theorem reset_valid : State.reset.Valid :=
  ⟨by decide, by decide, default_config_valid,
    (congrArg publishedTable (by decide +kernel : defaultConfig.primary = primaryDefault)).trans default_table⟩

/-- So is the default instance of any widths the spec allows. -/
theorem block_valid (w selw : Nat) (hw : 1 ≤ w) (hsel : 8 ≤ selw) : (block w selw).Valid :=
  ⟨hw, hsel, reset_valid.2.2.1, reset_valid.2.2.2⟩

/-- `PRIMARY` all 256 codes with the direct formulas, and the native bypass (V133, V132). -/
def fullConfig : Config := { library := allCodes.map fun k => (k, directFormula k), nativeLut := true }

/-- Its instance, of which every entry is an identity (V75). -/
def fullBlock (w selw : Nat) : Block w selw := Block.initial fullConfig (Memory.image (allCodes.map fun k => entryWord ⟨k, .abc⟩))

/-- Every code is among all codes. -/
theorem mem_allCodes (k : Code) : k ∈ allCodes :=
  List.mem_map.mpr ⟨k.toNat, List.mem_range.mpr k.isLt, by simp⟩

/-- A set that holds the codes gives each the identity. -/
theorem build_members (codes : List Code) :
    buildEntries allCodes codes = .ok (codes.map fun k => ⟨k, .abc⟩) := by
  induction codes with
  | nil => rfl
  | cons k rest ih => simp [buildEntries, findEntry, mem_allCodes, ih]

/-- Its codes are all codes. -/
theorem fullConfig_primary : fullConfig.primary = allCodes := by decide +kernel

/-- Its library is sorted and right. -/
theorem fullConfig_valid : Config.Valid fullConfig := by decide +kernel

/-- It is an instance of TLD. -/
theorem fullBlock_valid : (fullBlock 8 8).Valid := by
  refine ⟨by decide, by decide, fullConfig_valid, ?_⟩
  show publishedTable fullConfig.primary = some (fullBlock 8 8).rt
  rw [fullConfig_primary, publishedTable, buildReductionTable, build_members]
  simp [fullBlock, Block.initial, Function.comp_def]

theorem witness_DecodedBitsAreTheInstructionsOwn :
    decode (.cmd 0) = .ok .tlog00 ∧ decode (.cmd 255) = .ok .tlogFF ∧ decode (.rentry 0x5FF) = .ok (.rentryBca 0xFF) ∧
      decode (.fnode [0, 7]) = .ok .fnodeA :=
  ⟨rfl, rfl, rfl, rfl⟩

/-- An entry word before the default instance. -/
def entryState (word : EntryWord) : State := (machine 8 8).withStimulus (.entry word)

theorem witness_OnlyReservedEntryWordsAreRefused :
    (entryState 0x600).block.stimulus = .entry 0x600 ∧ 6 ≤ (0x600 : EntryWord).toNat / 256 ∧
      (entryState 0x5FF).block.stimulus = .entry 0x5FF ∧ (0x5FF : EntryWord).toNat / 256 < 6 := by
  decide +kernel

theorem witness_OnlyUnfinishedTagStringsAreRefused :
    decode (.fnode [4#3]) = .error .truncatedFormula ∧ [4#3, 3#3, 0#3] = formulaTags (.not .ones) ++ [0#3] :=
  ⟨rfl, rfl⟩

theorem witness_EveryRowFitsAnEightBitSelector : 8 ≤ 8 ∧ encode .tlogFF = .cmd 255 := ⟨by decide, rfl⟩

theorem witness_StepRunsTheDecodedInstruction : decode State.reset.block.encoded = .ok .tlog00 := rfl

theorem witness_StoredRowRunsNext :
    2 ^ State.reset.selw ≤ 256 ∧ decodeTableWord 8 255 = some .tlogFF ∧ 255 < 2 ^ State.reset.selw ∧ decodeTableWord 16 0x500 = some (.rentryBca 0) ∧
      decodeTableWord 3 4 = some (.fnodeNot .a) := by
  decide +kernel

/-- A selector on a port of nine bits. -/
def nineBits (sel : Nat) : State := (machine 8 9).present (BitVec.ofNat 9 sel) ⟨1, 2, 3⟩

theorem witness_SelectorAbove255FaultsAndNothingElse :
    (nineBits 256).block.stimulus = .command ∧ 255 < (nineBits 256).block.sel.toNat ∧
      step (nineBits 256) = .fault (.invalidCode 256) :=
  ⟨rfl, by decide, rfl⟩

theorem witness_EightBitSelectorsNeverFault : State.reset.selw = 8 := rfl

theorem witness_EvaluationsOfAnInstanceAreSafe : State.reset.Valid ∧ State.reset.block.stimulus = .command :=
  ⟨reset_valid, rfl⟩

theorem witness_EveryCodeRowCompletesWithTheReference :
    State.reset.block.Valid ∧ encode .tlog00 = .cmd 0 ∧ encode .tlogFF = .cmd 255 :=
  ⟨reset_valid, rfl, rfl⟩

/-- The largest selector of an evaluation, on a port of nine bits. -/
theorem witness_StepEvaluatesTheSelector :
    (nineBits 255).block.Valid ∧ (nineBits 255).block.stimulus = .command ∧ (nineBits 255).block.sel.toNat ≤ 255 :=
  ⟨block_valid 8 9 (by decide) (by decide), rfl, by decide⟩

/-- The next state of a TLOG row from reset. -/
def afterTlog00 : Block 8 8 := { State.reset.block with r := 0, err := false }

theorem witness_EvaluationIsTheReference : (fullBlock 8 8).Valid := fullBlock_valid

theorem witness_CodeRowsChangeOnlyTheOutputs :
    encode .tlog00 = .cmd 0 ∧ exec .tlog00 ⟨8, 8, State.reset.block⟩ = .next ⟨8, 8, afterTlog00⟩ :=
  ⟨rfl, rfl⟩

/-- A representative with a formula and one without. -/
theorem witness_EntryRowsSetTheMultiplexer :
    (block 8 8).cfg.formula? 0x0A#8 = some (.and .c (.not .a)) ∧ (block 8 8).cfg.formula? 0x0C#8 = none := by
  decide +kernel

/-- Both sides of the equivalence occur. -/
theorem witness_EntryRowsCompleteExactlyWhenWellFormed :
    instrWellFormed (block 8 8).cfg.primary (instrOfEntry ⟨0x0A, .bca⟩) = true ∧
      instrWellFormed (block 8 8).cfg.primary (instrOfEntry ⟨0x0C, .bca⟩) = false := by
  decide +kernel

theorem witness_EntryThenFormulaIsTheEvaluation : State.reset.block.Valid := reset_valid

theorem witness_KnownFixedPoints : (block 32 8).Valid := block_valid 32 8 (by decide) (by decide)

theorem witness_EvaluationCornerCases : (block 1 8).Valid := block_valid 1 8 (by decide) (by decide)

theorem witness_NativeBypassAgreesWithTheReduction : (fullBlock 8 8).Valid := fullBlock_valid

theorem witness_EverySelectorGivesReferenceOrErr :
    (block 8 9).Valid ∧ (255#9).toNat ≤ 255 ∧ ¬(256#9).toNat ≤ 255 :=
  ⟨block_valid 8 9 (by decide) (by decide), by decide, by decide⟩

theorem witness_OutputPortsShowTheStep :
    outputs (block 8 9) 255#9 ⟨1, 2, 3⟩ = some ⟨false, 0xFF#8⟩ ∧ (outputs (block 8 9) 256#9 ⟨1, 2, 3⟩).map Outputs.err = some true :=
  ⟨by decide +kernel, rfl⟩

theorem witness_ConfigurationIsUnobservable :
    (block 8 8).Valid ∧ (fullBlock 8 8).Valid ∧ (block 8 8).cfg ≠ (fullBlock 8 8).cfg ∧
      (outputs (block 8 8) 0x30#8 ⟨0x3C, 0xA5, 0x0F⟩).map Outputs.err = some false :=
  ⟨block_valid 8 8 (by decide) (by decide), fullBlock_valid, by decide +kernel, by decide +kernel⟩

theorem witness_EvaluationsDoNotInteract_StepReadsOnlyConfigurationAndInputs :
    step ⟨8, 8, State.reset.block⟩ = .next ⟨8, 8, afterTlog00⟩ :=
  rfl

theorem witness_WiderInstanceAgreesLaneByLane :
    ((block 8 8).present 0#8 ⟨0x3C, 0xA5, 0x0F⟩).Valid ∧ ((block 12 8).present 0#8 ⟨0xF3C, 0x0A5, 0xA0F⟩).Valid ∧ 8 ≤ 12 ∧
      (∀ j, j < 8 → lane ((block 12 8).present 0#8 ⟨0xF3C, 0x0A5, 0xA0F⟩).operands j =
        lane ((block 8 8).present 0#8 ⟨0x3C, 0xA5, 0x0F⟩).operands j) ∧ encode .tlogCA = .cmd 0xCA :=
  ⟨block_valid 8 8 (by decide) (by decide), block_valid 12 8 (by decide) (by decide), by decide, by decide +kernel, rfl⟩

/-- The lowest and the highest lane of a width, and the lowest and the highest `j` of `m_j`. -/
theorem witness_AluLaneTables_FormulaLanes_Reference : 0 < 12 ∧ 11 < 12 ∧ 0 < 8 ∧ 7 < 8 := by decide

theorem witness_ValidFormulasComputeTheirCodes :
    Config.Valid defaultConfig ∧ 0x00#8 ∈ defaultConfig.primary ∧ 0xFF#8 ∈ defaultConfig.primary :=
  ⟨default_config_valid, by decide +kernel, by decide +kernel⟩

theorem witness_CodeRemapIsTheUniqueSolution :
    ∀ x : Triple Bool, codeFn 0x1A#8 x = codeFn 0x34#8 (permuteOperands x .cab) := by
  rintro ⟨x, y, z⟩
  revert x y z
  decide +kernel

theorem witness_CodeRemapPreservesCountsAndOperations :
    sameOrbit 0x0A#8 0x30#8 = true ∧ sameOrbit (0x0A#8 ^^^ 0xFF#8) (0x30#8 ^^^ 0xFF#8) = true := by
  decide +kernel

theorem witness_OrbitsPartitionTheCodes :
    sameOrbit 0x0A#8 0x30#8 = true ∧ sameOrbit 0x30#8 0x44#8 = true ∧ 0x30#8 ∈ orbit 0x0A#8 ∧
      permuteCode 0x0A#8 .cab = 0x30#8 := by
  decide +kernel

/-- The statements about built tables: the build of the default set succeeds, with entries at the first and the last index. -/
theorem witness_BuiltEntriesSatisfyTheInvariant_BuiltTableProperties :
    buildReductionTable primaryDefault = .ok (romDefault.filterMap entryOfWord) ∧
      (romDefault.filterMap entryOfWord)[0]? = some ⟨0x00, .abc⟩ ∧
      (romDefault.filterMap entryOfWord)[255]? = some ⟨0xFF, .abc⟩ :=
  ⟨test_default_build, by decide +kernel, by decide +kernel⟩

/-- A member of the set, a code outside it that has an entry, and a set with an uncovered code. -/
theorem witness_BuilderTakesTheFirstMatch :
    0x0A#8 ∈ primaryDefault ∧ 0x0C#8 ∉ primaryDefault ∧ (0x01#8 : Code) ∉ [0x00#8] ∧
      ∀ p ∈ [Perm.bac, .acb, .cba, .cab, .bca], permuteCode 0x01#8 p ∉ [0x00#8] := by
  decide +kernel

theorem witness_BuildFailsExactlyOnAnUncoveredOrbit :
    Config.Valid only00 ∧ buildReductionTable only00.primary = .error 0x01#8 :=
  ⟨by decide +kernel, rfl⟩

/-- The largest code of each orbit (V77). -/
theorem witness_TablesOfOtherPrimarySets :
    (∃ largest : List Code, ∀ k, k ∈ largest ↔ ∀ j, sameOrbit k j = true → j.toNat ≤ k.toNat) ∧
      0x0A#8 ≠ 0x0C#8 ∧ 0x0A#8 ≠ 0x30#8 ∧ 0x0A#8 ≠ 0x44#8 :=
  ⟨⟨allCodes.filter fun k => decide (∀ j, sameOrbit k j = true → j.toNat ≤ k.toNat), fun k => by simp [mem_allCodes k]⟩,
    by decide, by decide, by decide⟩

theorem witness_PublishedTableIsCanonicalAndComplete : publishedTable primaryDefault = some State.reset.block.rt :=
  default_table

theorem witness_InstantiateGivesValidInstances :
    1 ≤ 1 ∧ 8 ≤ 8 ∧ Config.Valid fullConfig ∧ (∀ k : Code, ∃ p, permuteCode k p ∈ fullConfig.primary) ∧
      ∃ s, instantiate 1 8 fullConfig = .next s := by
  refine ⟨by decide, by decide, fullConfig_valid, fun k => ⟨.abc, by simp [fullConfig_primary, mem_allCodes]⟩, ?_⟩
  simp [instantiate, fullConfig_valid.1, fullConfig_valid.2, fullConfig_primary, buildReductionTable, build_members]

theorem witness_InstantiateRefusesBadParameters :
    7 < 8 ∧ codesRising unsorted.library = false ∧ codesRising wrong0A.library = true ∧
      (0x0A#8, Formula.and .a (.not .c)) ∈ wrong0A.library ∧ tt (.and .a (.not .c)) ≠ 0x0A#8 := by
  decide +kernel

theorem witness_StepKeepsInstancesValid : State.reset.Valid ∧ step State.reset = .next ⟨8, 8, afterTlog00⟩ :=
  ⟨reset_valid, rfl⟩

theorem witness_StepKeepsTheTableCanonical : State.reset.block.rt.wf ∧ step State.reset = .next ⟨8, 8, afterTlog00⟩ :=
  ⟨Laws.image_wf romDefault (by decide +kernel), rfl⟩

theorem witness_StepNeverChangesTableConfigurationOrInputs :
    step ⟨8, 8, State.reset.block⟩ = .next ⟨8, 8, afterTlog00⟩ :=
  rfl

end Sys2Proof.Tests
end

section
/-! The facts about the reference function, the library and the built table that the statements about evaluations rest on, and the
statements of 00_scope.md. -/

namespace Sys2Proof.Proofs

open Sys2Proof.Machine Sys2Proof.Laws

/-! ## The reference function lane by lane -/

/-- A vector that holds `f_k` of the lane in every lane is the reference function (R136). -/
theorem eq_ref_of_lanes {w : Nat} {v : BitVec w} {k : Code} {x : Triple (BitVec w)}
    (h : ∀ i, i < w → v.getLsbD i = codeFn k (lane x i)) : v = ref k x := by
  apply BitVec.eq_of_getLsbD_eq
  intro i hi
  rw [h i hi, ref, getLsbD_ofLanes, decide_eq_true hi, Bool.true_and]

/-- A formula is evaluated lane by lane: its value in a lane depends on the operands' bits in that lane only (R71, R78). -/
theorem getLsbD_eval_congr {v w i j : Nat} (f : Formula) {x : Triple (BitVec v)} {y : Triple (BitVec w)} (hi : i < v) (hj : j < w)
    (h : lane x i = lane y j) : (eval f x).getLsbD i = (eval f y).getLsbD j := by
  obtain ⟨ha, hb, hc⟩ := Triple.mk.inj h
  induction f with
  | a => exact ha
  | b => exact hb
  | c => exact hc
  | ones => simp only [eval, getLsbD_vOnes, hi, hj]
  | not f ih => simp only [eval, getLsbD_vNot, hi, hj, ih]
  | and f g ihf ihg => simp [eval, ihf, ihg]
  | or f g ihf ihg => simp [eval, ihf, ihg]
  | xor f g ihf ihg => simp [eval, ihf, ihg]

/-- The seed of `tt` holds every triple of bits, in the lane of its index (R79). -/
theorem lane_canonicalSeed (t : Triple Bool) : lane canonicalSeed (idx t) = t := by
  obtain ⟨x, y, z⟩ := t
  cases x <;> cases y <;> cases z <;> rfl

/-- A formula computes the reference function of its code, at every width (R79, R80). -/
theorem eval_eq_ref_tt {w : Nat} (f : Formula) (x : Triple (BitVec w)) : eval f x = ref (tt f) x :=
  eq_ref_of_lanes fun i hi => getLsbD_eval_congr f hi (idx_lt (lane x i)) (lane_canonicalSeed (lane x i)).symm

/-- Remapping the code undoes reordering the operands (R107). -/
theorem ref_permuteCode {w : Nat} (k : Code) (p : Perm) (x : Triple (BitVec w)) :
    ref (permuteCode k p) (permuteOperands x p) = ref k x := by
  simp [ref, lane_permuteOperands, codeFn_permuteCode]

/-- The identity leaves every code as it is (R101). -/
@[simp] theorem permuteCode_abc (k : Code) : permuteCode k .abc = k := by
  revert k
  decide +kernel

/-! ## The library -/

/-- No formula is wrong exactly when each computes the code it stands for (R80). -/
theorem firstWrongFormula_eq_none_iff {library : List (Code × Formula)} :
    firstWrongFormula library = none ↔ ∀ p ∈ library, tt p.2 = p.1 := by
  simp [firstWrongFormula]

/-- The code that is named stands in the library with a formula of another code (U4). -/
theorem exists_of_firstWrongFormula_eq_some {library : List (Code × Formula)} {k : Code} (h : firstWrongFormula library = some k) :
    ∃ f, (k, f) ∈ library ∧ tt f ≠ k := by
  obtain ⟨⟨_, f⟩, hfind, rfl⟩ := Option.map_eq_some_iff.mp h
  exact ⟨f, List.mem_of_find?_eq_some hfind, by simpa using List.find?_some hfind⟩

/-- In a valid configuration the formula of a code computes that code (R80). -/
theorem tt_of_formula? {cfg : Config} {r : Code} {f : Formula} (hcfg : Config.Valid cfg) (h : cfg.formula? r = some f) : tt f = r := by
  obtain ⟨before, after, hlib, -⟩ := List.lookup_eq_some_iff.mp h
  exact firstWrongFormula_eq_none_iff.mp hcfg.2 (r, f) (by simp [hlib])

/-- Every code of the Primary set has a formula (R76, R87). -/
theorem exists_formula?_of_mem_primary {cfg : Config} {r : Code} (h : r ∈ cfg.primary) : ∃ f, cfg.formula? r = some f := by
  obtain ⟨p, hp, rfl⟩ := List.mem_map.mp h
  exact Option.isSome_iff_exists.mp (List.lookup_isSome_iff.mpr ⟨p, hp, beq_self_eq_true p.1⟩)

/-! ## The built table -/

/-- The builder's entry for a code names a member of the Primary set and the permutation that carries the code to it (R120). -/
theorem findEntry_eq_some {primary : List Code} {k : Code} {e : Entry} (h : findEntry primary k = some e) :
    e.rep ∈ primary ∧ permuteCode k e.perm = e.rep := by
  unfold findEntry at h
  split at h
  · rename_i hmem
    cases h
    exact ⟨by simpa using hmem, permuteCode_abc k⟩
  · obtain ⟨p, hfind, rfl⟩ := Option.map_eq_some_iff.mp h
    exact ⟨by simpa using List.find?_some hfind, rfl⟩

/-- The loop of the builder gives each of its codes the code's own entry, in order (R122). -/
theorem map_findEntry_of_buildEntries {primary codes : List Code} {es : List Entry} (h : buildEntries primary codes = .ok es) :
    codes.map (findEntry primary) = es.map some := by
  induction codes generalizing es with
  | nil =>
    cases h
    rfl
  | cons k rest ih =>
    unfold buildEntries at h
    split at h
    · cases h
    · rename_i e he
      split at h
      · rename_i es' hes
        cases h
        simp [he, ih hes]
      · cases h

/-- The codes stand at their own places in the list of all codes. -/
theorem allCodes_getElem? (k : Code) : allCodes[k.toNat]? = some k := by
  simp [allCodes, List.getElem?_range k.isLt]

/-- A built list holds the entry of a code at the code's place (R121). -/
theorem findEntry_of_buildReductionTable {primary : List Code} {es : List Entry} (h : buildReductionTable primary = .ok es)
    (k : Code) : ∃ e, findEntry primary k = some e ∧ es[k.toNat]? = some e := by
  have hk := congrArg (·[k.toNat]?) (map_findEntry_of_buildEntries h)
  simp only [List.getElem?_map, allCodes_getElem?, Option.map_some] at hk
  obtain ⟨e, he, hsome⟩ := Option.map_eq_some_iff.mp hk.symm
  exact ⟨e, hsome.symm, he⟩

/-- The number of a permutation is read back as that permutation (R55). -/
@[simp] theorem permOfNumber_permNumber (p : Perm) : permOfNumber (permNumber p) = some p := by
  cases p <;> rfl

/-- Bits 10 to 8 of an entry's word are the number of its permutation (R54). -/
@[simp] theorem entryWord_perm_bits (e : Entry) : (entryWord e).extractLsb' 8 3 = permNumber e.perm :=
  BitVec.extractLsb'_append_eq_left

/-- Bits 7 to 0 of an entry's word are its representative (R54). -/
@[simp] theorem entryWord_rep_bits (e : Entry) : (entryWord e).extractLsb' 0 8 = e.rep :=
  BitVec.extractLsb'_append_eq_right

/-- The word of an entry is read back as that entry (R54, R55). -/
@[simp] theorem entryOfWord_entryWord (e : Entry) : entryOfWord (entryWord e) = some e := by
  simp [entryOfWord]

/-- A published table holds, for every code, the word of the builder's entry for it (R30, R121, R127). -/
theorem read_of_publishedTable {primary : List Code} {rt : Memory} (h : publishedTable primary = some rt) (k : Code) :
    ∃ e, findEntry primary k = some e ∧ rt.read k.toNat = some (entryWord e) := by
  unfold publishedTable at h
  split at h
  · rename_i es hes
    cases h
    obtain ⟨e, hfind, he⟩ := findEntry_of_buildReductionTable hes k
    exact ⟨e, hfind, by simp [image_read, he]⟩
  · cases h

/-- The lookup of any code in a published table gives the builder's entry for it (R138). -/
theorem readEntry_of_publishedTable {primary : List Code} {rt : Memory} (h : publishedTable primary = some rt) (k : Code) :
    ∃ e, findEntry primary k = some e ∧ readEntry rt k = .ok e := by
  obtain ⟨e, hfind, hread⟩ := read_of_publishedTable h k
  exact ⟨e, hfind, by simp [readEntry, hread]⟩

/-! ## Evaluations of a valid block -/

/-- The formula of the entry's representative, on the operands the entry reorders, computes the code the entry was built for
(R120, R139). -/
theorem eval_entry_eq_ref {w : Nat} {cfg : Config} {k : Code} {e : Entry} {f : Formula} (hcfg : Config.Valid cfg)
    (he : findEntry cfg.primary k = some e) (hf : cfg.formula? e.rep = some f) (x : Triple (BitVec w)) :
    eval f (permuteOperands x e.perm) = ref k x := by
  obtain ⟨-, hperm⟩ := findEntry_eq_some he
  calc eval f (permuteOperands x e.perm)
      _ = ref (tt f) (permuteOperands x e.perm) := eval_eq_ref_tt f _
      _ = ref (permuteCode k e.perm) (permuteOperands x e.perm) := by rw [tt_of_formula? hcfg hf, hperm]
      _ = ref k x := ref_permuteCode k e.perm x

/-- Through table, multiplexer and formula every code gives its reference function (R140). -/
theorem reducedEvaluate_eq_ref {w : Nat} {cfg : Config} {rt : Memory} (hcfg : Config.Valid cfg)
    (hrt : publishedTable cfg.primary = some rt) (k : Code) (x : Triple (BitVec w)) : reducedEvaluate cfg rt k x = .ok (ref k x) := by
  obtain ⟨e, he, hread⟩ := readEntry_of_publishedTable hrt k
  obtain ⟨f, hf⟩ := exists_formula?_of_mem_primary (findEntry_eq_some he).1
  simp [reducedEvaluate, hread, runWires, routeEntry, hf, eval_entry_eq_ref hcfg he hf x]

/-- Every code gives its reference function, with the native bypass and without (R140, R147). -/
theorem evaluate_eq_ref {w : Nat} {cfg : Config} {rt : Memory} (hcfg : Config.Valid cfg)
    (hrt : publishedTable cfg.primary = some rt) (k : Code) (x : Triple (BitVec w)) : evaluate cfg rt k x = .ok (ref k x) := by
  cases hnative : cfg.nativeLut with
  | true => simp [evaluate, hnative]
  | false => simp [evaluate, hnative, reducedEvaluate_eq_ref hcfg hrt k x]

section Outputs

variable {w selw : Nat} {s : Block w selw} {sel : BitVec selw}

/-- The ports of a valid block while the selector is a code: `Ref`, and `err = 0` (R149). -/
theorem outputs_of_le (hs : s.Valid) (hsel : sel.toNat ≤ 255) (x : Triple (BitVec w)) :
    outputs s sel x = some ⟨false, ref (BitVec.ofNat 8 sel.toNat) x⟩ := by
  obtain ⟨-, -, hcfg, hrt⟩ := hs
  have herr : errOf sel = false := decide_eq_false (by omega)
  simp [outputs, herr, evaluate_eq_ref hcfg hrt]

/-- The ports of any block while the selector is above 255: `err = 1`, and a value of the inputs alone (R149, R162). -/
theorem outputs_of_gt (hsel : 255 < sel.toNat) (x : Triple (BitVec w)) :
    outputs s sel x = some ⟨true, Config.resultWhileErr w sel.toNat x.a.toNat x.b.toNat x.c.toNat⟩ := by
  have herr : errOf sel = true := decide_eq_true hsel
  simp [outputs, herr]

end Outputs

/-- Settles O26: the ports of both blocks show a value that no longer names the configuration, by `outputs_of_le` where the selector
is a code and by `outputs_of_gt` where it is not. -/
theorem configurationIsUnobservable : Obligations.ConfigurationIsUnobservable := by
  intro w selw s s' hs hs' sel x
  by_cases hsel : sel.toNat ≤ 255
  · exact ⟨_, _, outputs_of_le hs hsel x, outputs_of_le hs' hsel x, rfl, fun _ => ⟨rfl, rfl⟩⟩
  · have hgt : 255 < sel.toNat := by omega
    exact ⟨_, _, outputs_of_gt hgt x, outputs_of_gt hgt x, rfl, fun h => by cases h⟩

/-! ## What instantiation refuses -/

section Instantiate

variable {w selw : Nat} {cfg : Config}

/-- A block without lanes is refused, whatever else is asked for (R8). -/
theorem instantiate_of_zeroWidth (hw : w = 0) : instantiate w selw cfg = .refused .zeroWidth := by
  simp [instantiate, hw]

/-- A selector port that cannot carry every code is refused (R8). -/
theorem instantiate_of_narrowSelector (hw : 1 ≤ w) (hsel : selw < 8) :
    instantiate w selw cfg = .refused (.narrowSelector selw) := by
  simp [instantiate, Nat.ne_of_gt hw, hsel]

/-- With both widths right, a library out of order is refused (log 9). -/
theorem instantiate_of_malformedLibrary (hw : 1 ≤ w) (hsel : 8 ≤ selw) (hrise : codesRising cfg.library = false) :
    instantiate w selw cfg = .refused .malformedLibrary := by
  simp [instantiate, Nat.ne_of_gt hw, Nat.not_lt.mpr hsel, hrise]

/-- With the library in its one form, its first wrong formula is refused by the code it stands for (R80, U4). -/
theorem instantiate_of_wrongFormula {k : Code} (hw : 1 ≤ w) (hsel : 8 ≤ selw) (hrise : codesRising cfg.library = true)
    (hwrong : firstWrongFormula cfg.library = some k) : instantiate w selw cfg = .refused (.wrongFormula k) := by
  simp [instantiate, Nat.ne_of_gt hw, Nat.not_lt.mpr hsel, hrise, hwrong]

end Instantiate

/-- Settles O51: one equation of `instantiate` for each check; a wrong formula anywhere in the library means that there is a first one,
and it is the one named. -/
theorem instantiateRefusesBadParameters : Obligations.InstantiateRefusesBadParameters := by
  intro w selw cfg
  refine ⟨instantiate_of_zeroWidth, instantiate_of_narrowSelector, instantiate_of_malformedLibrary, ?_⟩
  intro hw hsel hrise p hp hne
  have hsome : firstWrongFormula cfg.library ≠ none := fun h => hne (firstWrongFormula_eq_none_iff.mp h p hp)
  obtain ⟨k, hk⟩ := Option.ne_none_iff_exists'.mp hsome
  obtain ⟨f, hmem, hf⟩ := exists_of_firstWrongFormula_eq_some hk
  exact ⟨k, f, hmem, hf, instantiate_of_wrongFormula hw hsel hrise hk⟩

end Sys2Proof.Proofs
end

section
/-! What a step reads and what it leaves, for every stimulus, and the statements of 10_state.md. -/

namespace Sys2Proof.Proofs

open Sys2Proof.Machine Sys2Proof.Laws

/-! ## What a step reads and what it leaves -/

/-- A next state is the same block with a result delivered, whatever was presented (R88, R141). -/
theorem step_eq_deliver {s t : State} (h : step s = .next t) : ∃ r, t = ⟨s.w, s.selw, s.block.deliver r⟩ := by
  obtain ⟨i, -, hexec⟩ := step_next h
  exact exec_next hexec

/-- Settles O53: validity speaks of the widths, the configuration and the table, and a delivered result touches none of them. -/
theorem stepKeepsInstancesValid : Obligations.StepKeepsInstancesValid := by
  intro s t hs h
  obtain ⟨r, rfl⟩ := step_eq_deliver h
  exact hs

section Outputs

variable {w selw : Nat}

/-- A result that is delivered replaces both outputs, and a refusal shows neither (R16). -/
theorem conclude_ignores_outputs (s : Block w selw) (r : BitVec w) (err : Bool) (result : Except Refusal (BitVec w)) :
    conclude ⟨w, selw, { s with r, err }⟩ result = conclude ⟨w, selw, s⟩ result := by
  cases result <;> rfl

/-- No instruction reads the outputs, and one that completes drives both anew (R15). -/
theorem exec_ignores_outputs (i : Instr) (s : Block w selw) (r : BitVec w) (err : Bool) :
    exec i ⟨w, selw, { s with r, err }⟩ = exec i ⟨w, selw, s⟩ := by
  obtain ⟨n, hn, -⟩ | ⟨e, rfl⟩ | ⟨f, rfl⟩ := instr_cases i
  · rw [exec_cmd hn, exec_cmd hn]
    exact conclude_ignores_outputs s r err _
  · rw [exec_entry, exec_entry]
    exact conclude_ignores_outputs s r err _
  · rw [exec_formula, exec_formula]
    rfl

/-- No step reads the outputs: what is fetched depends on the inputs only (R15, log 6). -/
theorem step_ignores_outputs (s : Block w selw) (r : BitVec w) (err : Bool) :
    step ⟨w, selw, { s with r, err }⟩ = step ⟨w, selw, s⟩ := by
  have hfetch : fetch ⟨w, selw, { s with r, err }⟩ = fetch ⟨w, selw, s⟩ := rfl
  simp only [step, hfetch, exec_ignores_outputs]

end Outputs

/-- Settles O28: a next state differs from the state before it on the outputs only, which no step reads. -/
theorem stepReadsOnlyConfigurationAndInputs : Obligations.StepReadsOnlyConfigurationAndInputs := by
  intro w selw s
  refine ⟨step_ignores_outputs s, fun t h => ?_⟩
  obtain ⟨r, rfl⟩ := step_eq_deliver h
  exact (step_ignores_outputs s r false).trans h

/-- Settles O27: presenting an evaluation overwrites every input, so that after a step only the outputs differ, which neither the
evaluation nor the ports read. -/
theorem evaluationsDoNotInteract : Obligations.EvaluationsDoNotInteract := by
  intro w selw s t h sel x
  obtain ⟨r, ht⟩ := step_eq_deliver h
  cases ht
  exact ⟨step_ignores_outputs (s.present sel x) r false, rfl⟩

/-! ## The step on a selector, and the ports -/

/-- The instruction of a code is encoded as that code (R61). -/
theorem encode_instrOfCode (k : Code) : encode (instrOfCode k) = .cmd k.toNat := by
  revert k
  decide +kernel

/-- The instruction of a code is the evaluation of that code (R135). -/
theorem exec_instrOfCode (k : Code) (s : State) : exec (instrOfCode k) s = evaluateCode k s := by
  rw [exec_cmd (encode_instrOfCode k), BitVec.ofNat_toNat, BitVec.setWidth_eq]

/-- A step on a selector that is a code is the evaluation of that code (R135). -/
theorem step_command_of_le {s : State} (hcmd : s.block.stimulus = .command) (hsel : s.block.sel.toNat ≤ 255) :
    step s = evaluateCode (BitVec.ofNat 8 s.block.sel.toNat) s := by
  have hvalid : selectorInvalid s.block.sel.toNat = false := decide_eq_false (by omega)
  have hfetch : fetch s = .ok (instrOfCode (BitVec.ofNat 8 s.block.sel.toNat)) := by
    simp [fetch, Block.encoded, hcmd, decode, hvalid]
  simp only [step, hfetch, exec_instrOfCode]

/-- A step on a selector above 255 is the fault InvalidCode (R137). -/
theorem step_command_of_gt {s : State} (hcmd : s.block.stimulus = .command) (hsel : 255 < s.block.sel.toNat) :
    step s = .fault (.invalidCode s.block.sel.toNat) := by
  have hinvalid : selectorInvalid s.block.sel.toNat = true := decide_eq_true hsel
  have hfetch : fetch s = .error (.invalidCode s.block.sel.toNat) := by
    simp [fetch, Block.encoded, hcmd, decode, hinvalid]
  simp [step, hfetch, reject, raiseInvalidCode]

/-- Where the ports of any block have a value and the selector is a code, they show the evaluation's result and `err = 0` (R16). -/
theorem evaluate_of_outputs {w selw : Nat} {s : Block w selw} {sel : BitVec selw} {x : Triple (BitVec w)} {o : Outputs w}
    (hsel : sel.toNat ≤ 255) (h : outputs s sel x = some o) :
    o.err = false ∧ evaluate s.cfg s.rt (BitVec.ofNat 8 sel.toNat) x = .ok o.r := by
  have herr : errOf sel = false := decide_eq_false (by omega)
  unfold outputs at h
  rw [herr, if_neg Bool.false_ne_true] at h
  split at h
  · rename_i r heval
    cases h
    exact ⟨rfl, heval⟩
  · cases h

/-- Settles O25: on either side of 255 the ports and the step are given by the same evaluation, or by the selector alone. -/
theorem outputPortsShowTheStep : Obligations.OutputPortsShowTheStep := by
  intro w selw s sel x o ho
  by_cases hsel : sel.toNat ≤ 255
  · obtain ⟨herr, heval⟩ := evaluate_of_outputs hsel ho
    have hstep : evaluationOf ⟨w, selw, s⟩ sel x = .next ⟨w, selw, (s.present sel x).deliver o.r⟩ :=
      (step_command_of_le rfl hsel).trans (evaluateCode_ok heval)
    exact ⟨fun _ => ⟨_, hstep, rfl, rfl⟩, fun h => by simp [herr] at h⟩
  · have hgt : 255 < sel.toNat := by omega
    rw [outputs_of_gt hgt] at ho
    cases ho
    exact ⟨fun h => (nomatch h), fun _ => step_command_of_gt rfl hgt⟩

/-! ## The state of reset -/

/-- A valid configuration whose table can be published is instantiated with that table (R192). -/
theorem instantiate_of_publishedTable {w selw : Nat} {cfg : Config} {rt : Memory} (hw : 1 ≤ w) (hsel : 8 ≤ selw)
    (hcfg : Config.Valid cfg) (hrt : publishedTable cfg.primary = some rt) :
    instantiate w selw cfg = .next ⟨w, selw, Block.initial cfg rt⟩ := by
  obtain ⟨hrise, hright⟩ := hcfg
  unfold publishedTable at hrt
  split at hrt
  · rename_i es hbuild
    cases hrt
    simp [instantiate, Nat.ne_of_gt hw, Nat.not_lt.mpr hsel, hrise, hright, hbuild]
  · cases hrt

/-- Settles O52: the default configuration is valid and its published table is the spec's ROM image, which is what validity of the
reset state says. -/
theorem resetIsTheDefaultInstance : Obligations.ResetIsTheDefaultInstance := by
  obtain ⟨hw, hsel, hcfg, hrt⟩ := Tests.reset_valid
  exact ⟨instantiate_of_publishedTable hw hsel hcfg hrt, Tests.reset_valid⟩

end Sys2Proof.Proofs
end

section
/-! The form of the table: what canonical form excludes, what publishing gives, what a step leaves, and the statements of
20_memory.md. -/

namespace Sys2Proof.Proofs

open Sys2Proof.Machine Sys2Proof.Laws

/-! ## The form of a published table -/

/-- A table in canonical form holds no word outside the space (R38). -/
theorem read_eq_none_of_wf {rt : Memory} {index : Nat} (hrt : rt.wf) (hindex : 256 ≤ index) : rt.read index = none := by
  obtain ⟨-, hspace⟩ := hrt
  refine List.lookup_eq_none_iff.mpr fun p hp => ?_
  have hlt : p.1 < 256 := hspace p.1 (List.mem_map_of_mem hp)
  have hne : index ≠ p.1 := by omega
  simpa using hne

/-- A built list has one entry for each of the 256 codes (R121). -/
theorem length_of_buildReductionTable {primary : List Code} {es : List Entry} (h : buildReductionTable primary = .ok es) :
    es.length = 256 := by
  simpa [allCodes] using (congrArg List.length (map_findEntry_of_buildEntries h)).symm

/-- A published table is in canonical form: it is the image of one word for each code (R31, log 12). -/
theorem wf_of_publishedTable {primary : List Code} {rt : Memory} (h : publishedTable primary = some rt) : rt.wf := by
  unfold publishedTable at h
  split at h
  · rename_i es hes
    cases h
    exact image_wf _ (by simp [length_of_buildReductionTable hes])
  · cases h

/-- Settles O49: the form bounds the listed indices by the space, so that there is no word outside it, and within it the words are the
builder's. -/
theorem publishedTableIsCanonicalAndComplete : Obligations.PublishedTableIsCanonicalAndComplete := by
  intro primary rt h
  have hwf : rt.wf := wf_of_publishedTable h
  exact ⟨hwf, read_of_publishedTable h, fun _ => read_eq_none_of_wf hwf⟩

/-! ## What a step leaves of the table and the inputs -/

/-- Settles O54: a delivered result leaves the table as it is. -/
theorem stepKeepsTheTableCanonical : Obligations.StepKeepsTheTableCanonical := by
  intro s t hwf h
  obtain ⟨r, rfl⟩ := step_eq_deliver h
  simpa only [deliver_rt] using hwf

/-- Settles O55: the next state's block is the same block with a result delivered, which writes the two outputs and no other field. -/
theorem stepNeverChangesTableConfigurationOrInputs : Obligations.StepNeverChangesTableConfigurationOrInputs := by
  intro w selw s t h
  obtain ⟨r, rfl⟩ := step_eq_deliver h
  have htable : (s.deliver r).rt = s.rt := deliver_rt s r
  exact ⟨s.deliver r, rfl, deliver_cfg s r, htable, fun index => by rw [htable], deliver_stimulus s r, deliver_sel s r,
    deliver_operands s r⟩

end Sys2Proof.Proofs
end

section
/-! Decoding and encoding format by format, what a step makes of what it decodes, and the statements of 30_encoding.md. -/

namespace Sys2Proof.Proofs

open Sys2Proof.Machine Sys2Proof.Laws

/-! ## Selectors -/

/-- A selector that is a code decodes to the row of that code (R49). -/
theorem decode_cmd_of_le {n : Nat} (hn : n ≤ 255) : decode (.cmd n) = .ok (instrOfCode (BitVec.ofNat 8 n)) := by
  have hvalid : selectorInvalid n = false := decide_eq_false (by omega)
  simp [decode, hvalid]

/-- A selector above 255 decodes to no row (R49). -/
theorem decode_cmd_of_gt {n : Nat} (hn : 255 < n) : decode (.cmd n) = .error (.invalidCode n) := by
  have hinvalid : selectorInvalid n = true := decide_eq_true hn
  simp [decode, hinvalid]

/-- The row that is encoded as a number stands in the list of rows at that number (R61). -/
theorem instrOfCode_of_encode {i : Instr} {n : Nat} (h : encode i = .cmd n) : instrOfCode (BitVec.ofNat 8 n) = i := by
  cases i <;> cases h <;> rfl

/-- A selector that decodes to a row is the encoding of that row (R49, R61). -/
theorem encode_of_decode_cmd {n : Nat} {i : Instr} (h : decode (.cmd n) = .ok i) : encode i = .cmd n := by
  by_cases hn : n ≤ 255
  · rw [decode_cmd_of_le hn] at h
    cases h
    rw [encode_instrOfCode, BitVec.toNat_ofNat, Nat.mod_eq_of_lt (by omega)]
  · rw [decode_cmd_of_gt (by omega)] at h
    cases h

/-! ## Entry words -/

/-- The row of an entry is encoded as the entry's word (R54, R61). -/
@[simp] theorem encode_instrOfEntry (e : Entry) : encode (instrOfEntry e) = .rentry (entryWord e) := by
  obtain ⟨rep, p⟩ := e
  cases p <;> rfl

/-- The word of an entry decodes to the entry's row (R54, R61). -/
theorem decode_entryWord (e : Entry) : decode (.rentry (entryWord e)) = .ok (instrOfEntry e) := by
  simp [decode]

/-- A number that is read as a permutation is that permutation's number (R55). -/
theorem permNumber_of_permOfNumber {n : BitVec 3} {p : Perm} (h : permOfNumber n = some p) : permNumber p = n := by
  revert n
  cases p <;> decide

/-- The numbers without a permutation are 6 and 7 (R55, R58). -/
theorem permOfNumber_eq_none_iff {n : BitVec 3} : permOfNumber n = none ↔ 6 ≤ n.toNat := by
  revert n
  decide

/-- A word that is read as an entry is the word of that entry: its two fields are all its bits (R54). -/
theorem entryWord_of_entryOfWord {word : EntryWord} {e : Entry} (h : entryOfWord word = some e) : entryWord e = word := by
  obtain ⟨p, hp, rfl⟩ := Option.map_eq_some_iff.mp h
  rw [entryWord, permNumber_of_permOfNumber hp]
  exact BitVec.extractLsb'_append_extractLsb'

/-- The permutation number of a word, bits 10 to 8, as a number (R54). -/
theorem toNat_perm_bits (word : EntryWord) : (word.extractLsb' 8 3).toNat = word.toNat / 256 := by
  have hlt : word.toNat < 2048 := word.isLt
  rw [BitVec.extractLsb'_toNat, Nat.shiftRight_eq_div_pow]
  omega

/-- The words without an entry are those with permutation number 6 or 7 (R58). -/
theorem entryOfWord_eq_none_iff {word : EntryWord} : entryOfWord word = none ↔ 6 ≤ word.toNat / 256 := by
  rw [entryOfWord, Option.map_eq_none_iff, permOfNumber_eq_none_iff, toNat_perm_bits]

/-- A word with permutation number 6 or 7 decodes to no row (R58). -/
theorem decode_rentry_of_reserved {word : EntryWord} (h : 6 ≤ word.toNat / 256) :
    decode (.rentry word) = .error (.reservedPermutation (word.toNat / 256)) := by
  simp only [decode, entryOfWord_eq_none_iff.mpr h, toNat_perm_bits]

/-- Every other word is the word of an entry (R54, R58). -/
theorem exists_entryWord_of_not_reserved {word : EntryWord} (h : word.toNat / 256 < 6) : ∃ e, entryWord e = word := by
  have hne : entryOfWord word ≠ none := fun hnone => Nat.not_le.mpr h (entryOfWord_eq_none_iff.mp hnone)
  obtain ⟨e, he⟩ := Option.ne_none_iff_exists'.mp hne
  exact ⟨e, entryWord_of_entryOfWord he⟩

/-- A word that decodes to a row is the encoding of that row (R54, R61). -/
theorem encode_of_decode_rentry {word : EntryWord} {i : Instr} (h : decode (.rentry word) = .ok i) : encode i = .rentry word := by
  by_cases hreserved : 6 ≤ word.toNat / 256
  · rw [decode_rentry_of_reserved hreserved] at h
    cases h
  · obtain ⟨e, rfl⟩ := exists_entryWord_of_not_reserved (Nat.not_le.mp hreserved)
    rw [decode_entryWord] at h
    cases h
    exact encode_instrOfEntry e

/-! ## Tag strings -/

/-- The eight tags (R57). -/
theorem tag_cases (tag : Tag) :
    tag = 0#3 ∨ tag = 1#3 ∨ tag = 2#3 ∨ tag = 3#3 ∨ tag = 4#3 ∨ tag = 5#3 ∨ tag = 6#3 ∨ tag = 7#3 := by
  revert tag
  decide

/-- A pair is parsed exactly when two formulas are, one after the other (R57). -/
theorem parsePair_eq_some_iff {node : Formula → Formula → Formula} {parse : List Tag → Option (Formula × List Tag)}
    {tags rest : List Tag} {f : Formula} :
    parseFormula.parsePair node parse tags = some (f, rest) ↔
      ∃ g k mid, parse tags = some (g, mid) ∧ parse mid = some (k, rest) ∧ f = node g k := by
  simp only [parseFormula.parsePair, Option.bind_eq_some_iff, Option.map_eq_some_iff, Prod.exists, Prod.mk.injEq]
  constructor
  · rintro ⟨g, mid, hg, k, _, hk, rfl, rfl⟩
    exact ⟨g, k, mid, hg, hk, rfl⟩
  · rintro ⟨g, k, mid, hg, hk, rfl⟩
    exact ⟨g, mid, hg, k, rest, hk, rfl, rfl⟩

/-- A formula has at least the tag of its root. -/
theorem length_formulaTags_pos (f : Formula) : 0 < (formulaTags f).length := by
  cases f <;> exact Nat.succ_pos _

/-- The parser finds a formula whose tags begin the string, and leaves the tags after it. Every level of nesting has a tag of its own,
so that fuel for the formula's tags is enough (R57). -/
theorem parseFormula_formulaTags {fuel : Nat} {f : Formula} (rest : List Tag) (hfuel : (formulaTags f).length ≤ fuel) :
    parseFormula fuel (formulaTags f ++ rest) = some (f, rest) := by
  induction fuel generalizing f rest with
  | zero => exact absurd hfuel (Nat.not_le.mpr (length_formulaTags_pos f))
  | succ fuel ih =>
    have pair {node : Formula → Formula → Formula} {g k : Formula} (hlen : (formulaTags g ++ formulaTags k).length ≤ fuel) :
        parseFormula.parsePair node (parseFormula fuel) (formulaTags g ++ formulaTags k ++ rest) = some (node g k, rest) := by
      rw [List.length_append] at hlen
      rw [List.append_assoc]
      exact parsePair_eq_some_iff.mpr ⟨g, k, _, ih _ (by omega), ih _ (by omega), rfl⟩
    cases f with
    | a | b | c | ones => rfl
    | not g => exact congrArg (Option.map _) (ih rest (Nat.le_of_succ_le_succ hfuel))
    | and g k | or g k | xor g k => exact pair (Nat.le_of_succ_le_succ hfuel)

/-- What the parser reads off a string are the tags of the formula it answers (R57). -/
theorem eq_append_of_parseFormula {fuel : Nat} {tags rest : List Tag} {f : Formula}
    (h : parseFormula fuel tags = some (f, rest)) : tags = formulaTags f ++ rest := by
  induction fuel generalizing tags f rest with
  | zero => cases h
  | succ fuel ih =>
    cases tags with
    | nil => cases h
    | cons tag tags =>
      have pair {node : Formula → Formula → Formula}
          (hpair : parseFormula.parsePair node (parseFormula fuel) tags = some (f, rest)) :
          ∃ g k, f = node g k ∧ tags = formulaTags g ++ formulaTags k ++ rest := by
        obtain ⟨g, k, mid, hg, hk, rfl⟩ := parsePair_eq_some_iff.mp hpair
        exact ⟨g, k, rfl, by rw [ih hg, ih hk, List.append_assoc]⟩
      obtain rfl | rfl | rfl | rfl | rfl | rfl | rfl | rfl := tag_cases tag
      -- the four leaves
      iterate 4
        next =>
          cases h
          rfl
      -- the complement
      next =>
        obtain ⟨⟨g, mid⟩, hg, heq⟩ := Option.map_eq_some_iff.mp h
        cases heq
        rw [ih hg]
        rfl
      -- the three nodes with two children
      iterate 3
        next =>
          obtain ⟨g, k, rfl, htags⟩ := pair h
          rw [htags]
          rfl

/-- The parser, with the string's length as fuel, answers exactly the formulas whose tags begin the string (R57). -/
theorem parseFormula_eq_some_iff {tags rest : List Tag} {f : Formula} :
    parseFormula tags.length tags = some (f, rest) ↔ tags = formulaTags f ++ rest := by
  refine ⟨eq_append_of_parseFormula, ?_⟩
  rintro rfl
  exact parseFormula_formulaTags rest (by simp)

/-- The row of a formula is encoded as the formula's tags (R57, R61). -/
@[simp] theorem encode_instrOfFormula (f : Formula) : encode (instrOfFormula f) = .fnode (formulaTags f) := by
  cases f <;> rfl

/-- A string that begins with the tags of a formula decodes to the formula's row (R57, log 7). -/
theorem decode_formulaTags (f : Formula) (rest : List Tag) : decode (.fnode (formulaTags f ++ rest)) = .ok (instrOfFormula f) := by
  simp only [decode, parseFormula_eq_some_iff.mpr rfl]

/-- A string that begins with no formula decodes to no row (R57, log 7). -/
theorem decode_fnode_of_unfinished {tags : List Tag} (h : ∀ f rest, tags ≠ formulaTags f ++ rest) :
    decode (.fnode tags) = .error .truncatedFormula := by
  have hnone : parseFormula tags.length tags = none :=
    Option.eq_none_iff_forall_ne_some.mpr fun p hp => h p.1 p.2 (eq_append_of_parseFormula hp)
  simp [decode, hnone]

/-- A string that decodes to a row begins with the encoding of that row (R57, R61). -/
theorem encode_of_decode_fnode {tags : List Tag} {i : Instr} (h : decode (.fnode tags) = .ok i) :
    ∃ own rest, encode i = .fnode own ∧ tags = own ++ rest := by
  by_cases hfinished : ∃ f rest, tags = formulaTags f ++ rest
  · obtain ⟨f, rest, rfl⟩ := hfinished
    rw [decode_formulaTags] at h
    cases h
    exact ⟨formulaTags f, rest, encode_instrOfFormula f, rfl⟩
  · push Not at hfinished
    rw [decode_fnode_of_unfinished hfinished] at h
    cases h

/-! ## The statements about encodings -/

/-- Settles O1, format by format: a selector is the number of its row, an entry's word is read back as the entry, and the tags of a
formula are parsed as the formula with no tag left. -/
theorem decodeReadsWhatEncodeWrites : Obligations.DecodeReadsWhatEncodeWrites := by
  intro i
  obtain ⟨n, hn, hlt⟩ | ⟨e, rfl⟩ | ⟨f, rfl⟩ := instr_cases i
  · rw [hn, decode_cmd_of_le (by omega), instrOfCode_of_encode hn]
  · rw [encode_instrOfEntry, decode_entryWord]
  · simpa using decode_formulaTags f []

/-- Settles O2, one lemma for each format. -/
theorem decodedBitsAreTheInstructionsOwn : Obligations.DecodedBitsAreTheInstructionsOwn := by
  intro e i h
  cases e with
  | cmd selector => exact encode_of_decode_cmd h
  | rentry word => exact encode_of_decode_rentry h
  | fnode tags => exact encode_of_decode_fnode h

/-- Settles O5: a string that begins with a formula decodes to the formula's row, and any other is refused. -/
theorem onlyUnfinishedTagStringsAreRefused : Obligations.OnlyUnfinishedTagStringsAreRefused := by
  intro tags
  refine ⟨fun h f rest htags => ?_, decode_fnode_of_unfinished⟩
  rw [htags, decode_formulaTags] at h
  cases h

/-- Settles O3: each of the words is the encoding of its instruction, bit by bit, and so decodes to it. -/
theorem sampleWordsDecodeAsTheSpecSays : Obligations.SampleWordsDecodeAsTheSpecSays :=
  have decode_encode := decodeReadsWhatEncodeWrites
  ⟨decode_encode .tlog1B, decode_encode .tlogFF, decode_encode (.rentryAcb 0xAC), decode_encode (.rentryBca 0x0A),
    decode_encode (.fnodeXor .a (.xor .b .c)), decode_encode (.fnodeNot .ones)⟩

/-- Settles O6: a row's selector is at most 255 and the other two formats are not presented on a port. -/
theorem everyRowFitsAnEightBitSelector : Obligations.EveryRowFitsAnEightBitSelector := by
  intro i selw hselw
  obtain ⟨n, hn, hlt⟩ | ⟨e, rfl⟩ | ⟨f, rfl⟩ := instr_cases i
  · have hpow : 2 ^ 8 ≤ 2 ^ selw := Nat.pow_le_pow_right (by decide) hselw
    rw [hn, encodedFits, decide_eq_true_iff]
    exact Nat.lt_of_lt_of_le hlt hpow
  · rw [encode_instrOfEntry, encodedFits]
  · rw [encode_instrOfFormula, encodedFits]

/-! ## A step on what is presented -/

/-- A step runs the row that what is presented decodes to (R135). -/
theorem step_of_decode_ok {s : State} {i : Instr} (h : decode s.block.encoded = .ok i) : step s = exec i s := by
  simp [step, fetch, h]

/-- A step on what decodes to no row says why (log 2). -/
theorem step_of_decode_error {s : State} {err : DecodeError} (h : decode s.block.encoded = .error err) : step s = reject err := by
  simp [step, fetch, h]

/-- No row faults: the range check stands before it (R137). -/
theorem exec_ne_fault {i : Instr} {s : State} {f : Fault} : exec i s ≠ .fault f := by
  obtain ⟨n, hn, -⟩ | ⟨e, rfl⟩ | ⟨g, rfl⟩ := instr_cases i
  · rw [exec_cmd hn]
    exact evaluateCode_fault
  · rw [exec_entry]
    exact conclude_fault
  · rw [exec_formula]
    exact conclude_fault (result := .ok (evalOnPorts g s))

/-- Only a selector is refused for its range, and only one above 255 (R49). -/
theorem eq_cmd_of_decode_invalidCode {e : Encoded} {n : Nat} (h : decode e = .error (.invalidCode n)) : e = .cmd n ∧ 255 < n := by
  cases e with
  | cmd selector =>
    by_cases hle : selector ≤ 255
    · rw [decode_cmd_of_le hle] at h
      cases h
    · have hgt : 255 < selector := by omega
      rw [decode_cmd_of_gt hgt] at h
      cases h
      exact ⟨rfl, hgt⟩
  | rentry word =>
    simp only [decode] at h
    split at h <;> cases h
  | fnode tags =>
    simp only [decode] at h
    split at h <;> cases h

/-- A selector is decoded only where the selector is what is presented (R49). -/
theorem encoded_eq_cmd {w selw n : Nat} {s : Block w selw} (h : s.encoded = .cmd n) : s.stimulus = .command ∧ s.sel.toNat = n := by
  unfold Block.encoded at h
  split at h
  · rename_i hcmd
    cases h
    exact ⟨hcmd, rfl⟩
  · cases h
  · cases h

/-- The one fault that a step that decodes nothing raises is that of the selector (R162). -/
theorem reject_fault {err : DecodeError} {f : Fault} (h : reject err = .fault f) : ∃ n, err = .invalidCode n ∧ f = .invalidCode n := by
  cases err with
  | invalidCode n =>
    cases h
    exact ⟨n, rfl, rfl⟩
  | reservedPermutation number => cases h
  | truncatedFormula => cases h

/-- A step faults on a presented selector above 255 only, and the fault carries that selector (R137). -/
theorem step_fault {s : State} {f : Fault} (h : step s = .fault f) :
    s.block.stimulus = .command ∧ 255 < s.block.sel.toNat ∧ f = .invalidCode s.block.sel.toNat := by
  cases hdecode : decode s.block.encoded with
  | ok i => exact absurd ((step_of_decode_ok hdecode).symm.trans h) exec_ne_fault
  | error err =>
    obtain ⟨n, rfl, rfl⟩ := reject_fault ((step_of_decode_error hdecode).symm.trans h)
    obtain ⟨hencoded, hgt⟩ := eq_cmd_of_decode_invalidCode hdecode
    obtain ⟨hcmd, rfl⟩ := encoded_eq_cmd hencoded
    exact ⟨hcmd, hgt, rfl⟩

/-- Settles O10: a fault needs a selector above 255, which 8 bits do not hold. -/
theorem eightBitSelectorsNeverFault : Obligations.EightBitSelectorsNeverFault := by
  intro s f hselw h
  obtain ⟨-, hgt, -⟩ := step_fault h
  have hlt : s.block.sel.toNat < 2 ^ s.selw := s.block.sel.isLt
  have hpow : 2 ^ s.selw = 2 ^ 8 := congrArg (2 ^ ·) hselw
  omega

/-- Settles O4: the words with a reserved number decode to no row, and every other word is an entry's own, which decodes to the entry's
row. -/
theorem onlyReservedEntryWordsAreRefused : Obligations.OnlyReservedEntryWordsAreRefused := by
  intro s word hstim
  have hencoded : s.block.encoded = .rentry word := by simp only [Block.encoded, hstim]
  constructor
  · intro hreserved
    have hdecode := decode_rentry_of_reserved hreserved
    exact step_of_decode_error (hencoded ▸ hdecode)
  · intro hlt
    obtain ⟨e, rfl⟩ := exists_entryWord_of_not_reserved hlt
    exact ⟨instrOfEntry e, encode_instrOfEntry e, step_of_decode_ok (hencoded ▸ decode_entryWord e)⟩

/-! ## Entries that complete -/

/-- An entry presented on its own completes exactly when its representative has a formula (R58, R87, log 5). -/
theorem evaluateEntry_completes_iff {e : Entry} {s : State} :
    (∃ t, evaluateEntry e s = .next t) ↔ e.rep ∈ s.block.cfg.primary := by
  constructor
  · rintro ⟨t, h⟩
    obtain ⟨f, hf, -⟩ := evaluateEntry_next h
    obtain ⟨before, after, hlib, -⟩ := List.lookup_eq_some_iff.mp hf
    simp [Config.primary, hlib]
  · intro h
    obtain ⟨f, hf⟩ := exists_formula?_of_mem_primary h
    exact ⟨_, evaluateEntry_ok hf⟩

/-- The row of an entry is well-formed exactly when the representative is in the Primary set (R58). -/
theorem instrWellFormed_instrOfEntry_iff {primary : List Code} {e : Entry} :
    instrWellFormed primary (instrOfEntry e) = true ↔ e.rep ∈ primary := by
  simp [instrWellFormed]

/-- Settles O17: to complete and to be well-formed are both membership of the representative in the Primary set. -/
theorem entryRowsCompleteExactlyWhenWellFormed : Obligations.EntryRowsCompleteExactlyWhenWellFormed := by
  intro w selw s e
  rw [exec_entry, evaluateEntry_completes_iff, instrWellFormed_instrOfEntry_iff]

/-! ## Rows stored by their bits -/

/-- Bits that are read as a row are read in one of the formats (log 8). -/
theorem exists_tableWord_of_decodeTableWord {nbits w : Nat} {i : Instr} (h : decodeTableWord nbits w = some i) :
    ∃ e, tableWord nbits w = some e ∧ decode e = .ok i := by
  unfold decodeTableWord at h
  split at h
  · rename_i e he
    cases hdecode : decode e with
    | ok j =>
      rw [hdecode] at h
      cases h
      exact ⟨e, he, hdecode⟩
    | error err =>
      rw [hdecode] at h
      cases h
  · cases h

/-- Eight bits are a selector (log 8). -/
theorem tableWord_eight (w : Nat) : tableWord 8 w = some (.cmd w) := rfl

/-- Only eight bits are read as a selector, which is then their number (log 8). -/
theorem tableWord_cmd {nbits w n : Nat} (h : tableWord nbits w = some (.cmd n)) : nbits = 8 ∧ n = w := by
  unfold tableWord at h
  split at h
  · cases h
  · split at h
    · rename_i hnbits
      cases h
      exact ⟨hnbits, rfl⟩
    · split at h <;> cases h

/-- What a row's bits are read as fits its place if a selector fits its port (R48). -/
theorem encodedFits_of_tableWord {selw nbits w : Nat} {e : Encoded} (h : tableWord nbits w = some e)
    (hfits : nbits = 8 → w < 2 ^ selw) : encodedFits selw e = true := by
  cases e with
  | cmd n =>
    obtain ⟨hnbits, rfl⟩ := tableWord_cmd h
    exact decide_eq_true (hfits hnbits)
  | rentry word => rfl
  | fnode tags => rfl

/-- Settles O8: what fits is stored where the step decodes it, and a selector that does not fit is not stored. -/
theorem storedRowRunsNext : Obligations.StoredRowRunsNext := by
  intro s nbits w
  constructor
  · intro i hi hfits
    obtain ⟨e, he, hdecode⟩ := exists_tableWord_of_decodeTableWord hi
    have hstore : s.withFetchWord nbits w = s.store e := by rw [State.withFetchWord, he]
    have hencoded : (s.store e).block.encoded = e := store_of_fits (encodedFits_of_tableWord he hfits)
    rw [hstore]
    exact step_of_decode_ok (hencoded.symm ▸ hdecode)
  · rintro rfl hwide
    have hnot : encodedFits s.selw (.cmd w) = false := decide_eq_false (Nat.not_lt.mpr hwide)
    rw [State.withFetchWord, tableWord_eight]
    exact store_of_not_fits hnot

end Sys2Proof.Proofs
end

section
/-! The ALU's tables and laws, lane independence of formulas and of whole evaluations, the FNODE rows, and with them the statements of
40_alu_primitives.md. -/

namespace Sys2Proof.Proofs

open Sys2Proof.Machine Sys2Proof.Laws

/-! ## The five operations -/

section Operations

variable {w : Nat}

/-- `OR` distributes over `AND`, since it does on the bits of a lane (R73). -/
theorem vOr_vAnd_distrib_left (x y z : BitVec w) : vOr x (vAnd y z) = vAnd (vOr x y) (vOr x z) := by
  apply BitVec.eq_of_getLsbD_eq
  intro i _
  simp only [getLsbD_vOr, getLsbD_vAnd]
  exact Bool.or_and_distrib_left _ _ _

/-- `XOR` is one operand without the other, or the other way round (R73). -/
theorem vXor_eq_vOr_vAnd_vNot (x y : BitVec w) : vXor x y = vOr (vAnd x (vNot y)) (vAnd (vNot x) y) := by
  apply BitVec.eq_of_getLsbD_eq
  intro i hi
  simp only [getLsbD_vXor, getLsbD_vOr, getLsbD_vAnd, getLsbD_vNot, hi, decide_true, Bool.true_and]
  cases x.getLsbD i <;> cases y.getLsbD i <;> rfl

end Operations

/-- Settles O30: the lane lemmas of the five operations, of which those of `NOT` and `ONES` ask that the lane is within the width. -/
theorem aluLaneTables : Obligations.AluLaneTables := by
  intro w x y i hi
  refine ⟨getLsbD_vAnd x y i, getLsbD_vOr x y i, getLsbD_vXor x y i, ?_, ?_⟩
  · rw [getLsbD_vNot, decide_eq_true hi, Bool.true_and]
  · rw [getLsbD_vOnes, decide_eq_true hi]

/-- Settles O31: the operations are those of bit vectors, whose laws these are but for the second distributive law and the law for
`XOR`, which hold lane by lane. -/
theorem booleanAlgebraLaws : Obligations.BooleanAlgebraLaws := by
  intro w x y z
  refine ⟨⟨?_, ?_, ?_⟩, ⟨?_, ?_, ?_⟩, ⟨?_, ?_⟩, ⟨?_, ?_⟩, ?_⟩
  · exact BitVec.and_comm x y
  · exact BitVec.or_comm x y
  · exact BitVec.xor_comm x y
  · exact BitVec.and_assoc x y z
  · exact BitVec.or_assoc x y z
  · exact BitVec.xor_assoc x y z
  · exact BitVec.and_or_distrib_left
  · exact vOr_vAnd_distrib_left x y z
  · exact BitVec.not_and
  · exact BitVec.not_or
  · exact vXor_eq_vOr_vAnd_vNot x y

/-! ## One lane on its own -/

/-- Three bits, each made a vector of one lane, are that vectors' lane (R71). -/
theorem lane_ofBool (x : Triple Bool) : lane ⟨BitVec.ofBool x.a, BitVec.ofBool x.b, BitVec.ofBool x.c⟩ 0 = x := by
  simp [lane]

/-- Settles O32: the one-lane operands have in lane 0 the bits that the wide ones have in lane `j`, and no other bits are read. -/
theorem formulaLanesAreOneLaneEvaluations : Obligations.FormulaLanesAreOneLaneEvaluations := by
  intro w f t j hj
  exact getLsbD_eval_congr f hj Nat.one_pos (lane_ofBool (lane t j)).symm

/-! ## The rows -/

/-- A formula presented on its own delivers its value on the operands (R78, log 5). -/
theorem exec_instrOfFormula_eq_deliver {w selw : Nat} (s : Block w selw) (f : Formula) :
    exec (instrOfFormula f) ⟨w, selw, s⟩ = .next ⟨w, selw, s.deliver (eval f s.operands)⟩ :=
  exec_formula f ⟨w, selw, s⟩

/-- Settles O18: each of the eight rows is the instruction of a formula with that node at its root. -/
theorem formulaRowsDeliverTheirNode : Obligations.FormulaRowsDeliverTheirNode := by
  intro w selw s f g
  have hrow := exec_instrOfFormula_eq_deliver s
  exact ⟨hrow .a, hrow .b, hrow .c, hrow .ones, hrow (.not f), hrow (.and f g), hrow (.or f g), hrow (.xor f g)⟩

/-- On a valid block the row of a code delivers the reference function of the code (R140). -/
theorem exec_cmd_of_valid {w selw : Nat} {s : Block w selw} {i : Instr} {k : Nat} (hs : s.Valid) (hi : encode i = .cmd k) :
    exec i ⟨w, selw, s⟩ = .next ⟨w, selw, s.deliver (ref (BitVec.ofNat 8 k) s.operands)⟩ := by
  obtain ⟨-, -, hcfg, hrt⟩ := hs
  exact (exec_cmd hi ⟨w, selw, s⟩).trans (evaluateCode_ok (evaluate_eq_ref hcfg hrt _ _))

/-- A lane of the reference function is the function of the code on the bits of that lane (R136). -/
theorem getLsbD_ref {w i : Nat} (k : Code) (x : Triple (BitVec w)) (hi : i < w) : (ref k x).getLsbD i = codeFn k (lane x i) := by
  rw [ref, getLsbD_ofLanes, decide_eq_true hi, Bool.true_and]

/-- Settles O29: both instances deliver the reference function of the same code, which in a lane depends on that lane's bits only. -/
theorem widerInstanceAgreesLaneByLane : Obligations.WiderInstanceAgreesLaneByLane := by
  intro w w' selw selw' s s' hs hs' hle hlanes i k hi
  refine ⟨_, _, exec_cmd_of_valid hs hi, exec_cmd_of_valid hs' hi, fun j hj => ?_⟩
  have hj' : j < w' := Nat.lt_of_lt_of_le hj hle
  rw [deliver_r, deliver_r, getLsbD_ref _ _ hj', getLsbD_ref _ _ hj, hlanes j hj]

end Sys2Proof.Proofs
end

section
/-! The formulas of a library, of the default one and presented on their own: the statements of 41_formula_library.md. -/

namespace Sys2Proof.Proofs

open Sys2Proof.Machine Sys2Proof.Laws

/-- A lane of a formula's value is the function of the formula's code on the bits of that lane (R50, R79). -/
theorem getLsbD_eval_eq_codeFn_tt {w i : Nat} (f : Formula) (x : Triple (BitVec w)) (hi : i < w) :
    (eval f x).getLsbD i = codeFn (tt f) (lane x i) := by
  rw [eval_eq_ref_tt, getLsbD_ref _ _ hi]

/-- Settles O35: the configuration with the direct formulas of all 256 codes as its library is valid, and so none of them computes a
code other than its own. -/
theorem defaultFormulasComputeTheirCodes : Obligations.DefaultFormulasComputeTheirCodes := by
  intro k
  have hmem : (k, directFormula k) ∈ Tests.fullConfig.library := List.mem_map_of_mem (Tests.mem_allCodes k)
  obtain ⟨-, hright⟩ := Tests.fullConfig_valid
  exact firstWrongFormula_eq_none_iff.mp hright _ hmem

/-- Settles O19: a formula's row delivers the formula's value on the operands, which is the reference function of its code. -/
theorem formulaRowsComputeTheirTruthTable : Obligations.FormulaRowsComputeTheirTruthTable := by
  intro w selw s f
  have hrow := exec_instrOfFormula_eq_deliver s f
  rw [eval_eq_ref_tt] at hrow
  exact hrow

/-- Settles O34: a library that validity has checked holds formulas of the right code, and the code of a formula determines its value in
every lane. -/
theorem validFormulasComputeTheirCodes : Obligations.ValidFormulasComputeTheirCodes := by
  intro cfg hcfg r hr
  obtain ⟨f, hf⟩ := exists_formula?_of_mem_primary hr
  have htt : tt f = r := tt_of_formula? hcfg hf
  refine ⟨f, hf, htt, fun w x i hi => ?_⟩
  rw [getLsbD_eval_eq_codeFn_tt f x hi, htt]

end Sys2Proof.Proofs
end

section
/-! Permutations of operands, the remap of codes and the orbits: the statements of 42_permutation_engine.md. -/

namespace Sys2Proof.Proofs

open Sys2Proof.Machine Sys2Proof.Laws

/-! ## Permutations of the operands -/

/-- Two multiplexers one after the other are one multiplexer, steered as the table of R109 says. -/
theorem permuteOperands_permuteOperands {α : Type} (t : Triple α) (p q : Perm) :
    permuteOperands (permuteOperands t p) q = permuteOperands t (composePerm p q) := by
  cases p <;> cases q <;> rfl

/-- The inverse of a permutation followed by it leaves three values in place too (R108). -/
theorem permuteOperands_inverse_left {α : Type} (t : Triple α) (p : Perm) :
    permuteOperands (permuteOperands t (inversePerm p)) p = t := by
  cases p <;> rfl

/-- A permutation and then its inverse are the identity (R108, R109). -/
@[simp] theorem composePerm_inversePerm (p : Perm) : composePerm p (inversePerm p) = .abc := by
  cases p <;> rfl

/-- Only equal permutations are undone by the same inverse (R108, R109). -/
theorem eq_of_composePerm_inversePerm {p q : Perm} (h : composePerm p (inversePerm q) = .abc) : p = q := by
  revert h
  cases p <;> cases q <;> decide

/-- The list of the six permutations is complete (R90). -/
theorem mem_allPerms (p : Perm) : p ∈ allPerms := by
  cases p <;> decide

/-! ## The bits of a remapped code -/

/-- The bits of an index below 8 have that index (R11, R50). -/
theorem idx_indexBits {d : Nat} (hd : d < 8) : idx (indexBits d) = d := by
  revert d
  decide

/-- A code is determined by its function (R50). -/
theorem eq_of_codeFn_eq {k k' : Code} (h : ∀ x, codeFn k x = codeFn k' x) : k = k' := by
  apply BitVec.eq_of_getLsbD_eq
  intro d hd
  simpa only [codeFn, idx_indexBits hd] using h (indexBits d)

/-- The remapped code is the only one whose function on the reordered inputs is that of the code: every input is a reordered one
(R100). -/
theorem eq_permuteCode_iff {k k' : Code} {p : Perm} :
    k' = permuteCode k p ↔ ∀ x, codeFn k x = codeFn k' (permuteOperands x p) := by
  constructor
  · rintro rfl x
    exact (codeFn_permuteCode k p x).symm
  · intro h
    refine eq_of_codeFn_eq fun y => ?_
    calc codeFn k' y
        _ = codeFn k' (permuteOperands (permuteOperands y (inversePerm p)) p) := by rw [permuteOperands_inverse_left]
        _ = codeFn k (permuteOperands y (inversePerm p)) := (h _).symm
        _ = codeFn (permuteCode k p) (permuteOperands (permuteOperands y (inversePerm p)) p) :=
          (codeFn_permuteCode k p _).symm
        _ = codeFn (permuteCode k p) y := by rw [permuteOperands_inverse_left]

/-- Each bit of a remapped code is the code's bit at its source (R100). -/
theorem getLsbD_permuteCode (k : Code) (p : Perm) {d : Nat} (hd : d < 8) :
    (permuteCode k p).getLsbD d = k.getLsbD (sourceBit p d) := by
  rw [permuteCode, getLsbD_ofLanes, decide_eq_true hd, Bool.true_and]

/-- The eight bits of a remapped code are the code's bits at the row of the table of source bits (R100). -/
theorem map_getLsbD_permuteCode (k : Code) (p : Perm) :
    (List.range 8).map (fun d => (permuteCode k p).getLsbD d) = ((List.range 8).map (sourceBit p)).map fun d => k.getLsbD d := by
  rw [List.map_map]
  exact List.map_congr_left fun d hd => getLsbD_permuteCode k p (List.mem_range.mp hd)

/-- A code with the right bits is the remapped code (R100). -/
theorem permuteCode_eq_of_bits {k k' : Code} {p : Perm} (h : ∀ d, d < 8 → k.getLsbD (sourceBit p d) = k'.getLsbD d) :
    permuteCode k p = k' :=
  BitVec.eq_of_getLsbD_eq fun d hd => (getLsbD_permuteCode k p hd).trans (h d hd)

/-- Two remaps one after the other are one remap, by the composition of the permutations (R110). -/
theorem permuteCode_permuteCode (k : Code) (p q : Perm) :
    permuteCode (permuteCode k p) q = permuteCode k (composePerm p q) := by
  refine eq_permuteCode_iff.mpr fun x => ?_
  rw [← permuteOperands_permuteOperands, codeFn_permuteCode, codeFn_permuteCode]

/-- A remap is undone by the inverse permutation (R108). -/
@[simp] theorem permuteCode_inverse (k : Code) (p : Perm) : permuteCode (permuteCode k p) (inversePerm p) = k := by
  rw [permuteCode_permuteCode, composePerm_inversePerm, permuteCode_abc]

/-- Settles O36: uniqueness is `eq_permuteCode_iff`, the moved bits are the functions' values, and the source bits of each of the six
permutations are computed. -/
theorem codeRemapIsTheUniqueSolution : Obligations.CodeRemapIsTheUniqueSolution := by
  intro k k' p
  refine ⟨eq_permuteCode_iff.symm, codeFn_permuteCode k p, ?_⟩
  rw [map_getLsbD_permuteCode]
  cases p <;> rfl

/-- Settles O37: the multiplexer reorders the bits of every lane, and in a lane the remapped code has the value of the code. -/
theorem codeRemapPreservesTheReference : Obligations.CodeRemapPreservesTheReference :=
  fun _ k p t => (ref_permuteCode k p t).symm

/-- Settles O38: the identity leaves every code, the masks and shifts of the transpositions give each bit its source, and the source
bits of the three-cycles are those of the table. -/
theorem codeRemapClosedForms : Obligations.CodeRemapClosedForms := by
  intro k
  refine ⟨permuteCode_abc k, permuteCode_eq_of_bits ?bac, permuteCode_eq_of_bits ?acb, permuteCode_eq_of_bits ?cba,
    map_getLsbD_permuteCode k .cab, map_getLsbD_permuteCode k .bca⟩
  all_goals
    intro d hd
    interval_cases d <;> simp [sourceBit, permuteOperands, inversePerm, indexBits, idx, Nat.testBit]

/-- Settles O39: the multiplexers compose by the table, and the remaps do because a code is determined by its function. -/
theorem permutationsComposeAlikeOnOperandsAndCodes : Obligations.PermutationsComposeAlikeOnOperandsAndCodes :=
  fun p q k _ t => ⟨permuteOperands_inverse t p, permuteCode_inverse k p, permuteOperands_permuteOperands t p q,
    permuteCode_permuteCode k p q⟩

/-! ## What every remap preserves -/

/-- A remap keeps the number of ones among bits that it permutes among themselves (R116). -/
theorem countP_getLsbD_permuteCode {l : List Nat} {p : Perm} (k : Code) (hlt : ∀ d ∈ l, d < 8)
    (hperm : (l.map (sourceBit p)).Perm l) :
    l.countP (fun d => (permuteCode k p).getLsbD d) = l.countP (fun d => k.getLsbD d) :=
  calc l.countP (fun d => (permuteCode k p).getLsbD d)
      _ = l.countP (fun d => k.getLsbD (sourceBit p d)) :=
        List.countP_congr fun d hd => by rw [getLsbD_permuteCode k p (hlt d hd)]
      _ = (l.map (sourceBit p)).countP (fun d => k.getLsbD d) := List.countP_map.symm
      _ = l.countP (fun d => k.getLsbD d) := hperm.countP_eq _

/-- The source bits are the eight bits, the three of the inputs with one 1 and the three of the inputs with two, in some order each:
a reordering keeps the number of ones of an input (R100, R116). -/
theorem map_sourceBit_perm (p : Perm) :
    ((List.range 8).map (sourceBit p)).Perm (List.range 8) ∧ ([1, 2, 4].map (sourceBit p)).Perm [1, 2, 4] ∧
      ([3, 5, 6].map (sourceBit p)).Perm [3, 5, 6] := by
  cases p <;> decide

/-- The input of no 1 is its own source (R100). -/
@[simp] theorem sourceBit_zero (p : Perm) : sourceBit p 0 = 0 := by
  cases p <;> rfl

/-- The input of three 1 is its own source (R100). -/
@[simp] theorem sourceBit_seven (p : Perm) : sourceBit p 7 = 7 := by
  cases p <;> rfl

/-- Remapping distributes over `AND`, a bit of which depends on the two bits in its place only (R116). -/
theorem permuteCode_and (j k : Code) (p : Perm) : permuteCode (j &&& k) p = permuteCode j p &&& permuteCode k p :=
  permuteCode_eq_of_bits fun d hd => by simp only [BitVec.getLsbD_and, getLsbD_permuteCode _ _ hd]

/-- Remapping distributes over `OR` (R116). -/
theorem permuteCode_or (j k : Code) (p : Perm) : permuteCode (j ||| k) p = permuteCode j p ||| permuteCode k p :=
  permuteCode_eq_of_bits fun d hd => by simp only [BitVec.getLsbD_or, getLsbD_permuteCode _ _ hd]

/-- Remapping distributes over `XOR` (R116). -/
theorem permuteCode_xor (j k : Code) (p : Perm) : permuteCode (j ^^^ k) p = permuteCode j p ^^^ permuteCode k p :=
  permuteCode_eq_of_bits fun d hd => by simp only [BitVec.getLsbD_xor, getLsbD_permuteCode _ _ hd]

/-- The complement of a code is remapped to the complement, since the code of all ones is its own remap (R116). -/
theorem permuteCode_complement (k : Code) (p : Perm) : permuteCode (k ^^^ 0xFF#8) p = permuteCode k p ^^^ 0xFF#8 := by
  have hones : permuteCode 0xFF#8 p = 0xFF#8 := by cases p <;> decide
  rw [permuteCode_xor, hones]

/-! ## Orbits -/

/-- Two codes are in one orbit exactly when some permutation carries the first to the second (R113). -/
theorem sameOrbit_iff {k j : Code} : sameOrbit k j = true ↔ ∃ p, permuteCode k p = j := by
  simp [sameOrbit, mem_allPerms]

/-- The list of an orbit holds exactly the codes to which some permutation carries the code (R113). -/
theorem mem_orbit_iff {k j : Code} : j ∈ orbit k ↔ ∃ p, permuteCode k p = j := by
  simp [orbit, mem_allPerms]

/-- The complements of two codes are in one orbit exactly when the codes are (R116). -/
theorem sameOrbit_complement_iff {k j : Code} : sameOrbit (k ^^^ 0xFF#8) (j ^^^ 0xFF#8) = true ↔ sameOrbit k j = true := by
  simp [sameOrbit_iff, permuteCode_complement]

/-- Settles O40: bits 0 and 7 are their own sources, the counts are of bits that are permuted among themselves, and the operations are
remapped bit by bit. -/
theorem codeRemapPreservesCountsAndOperations : Obligations.CodeRemapPreservesCountsAndOperations := by
  intro k j p
  obtain ⟨hall, hone, htwo⟩ := map_sourceBit_perm p
  refine ⟨?zero, ?seven,
    countP_getLsbD_permuteCode k (by decide) hall, countP_getLsbD_permuteCode k (by decide) hone,
    countP_getLsbD_permuteCode k (by decide) htwo, permuteCode_complement k p, sameOrbit_complement_iff.symm,
    permuteCode_and j k p, permuteCode_or j k p, permuteCode_xor j k p⟩
  case zero => rw [getLsbD_permuteCode k p (by decide), sourceBit_zero]
  case seven => rw [getLsbD_permuteCode k p (by decide), sourceBit_seven]

/-- Settles O41: the identity, the inverses and the composition of permutations make an equivalence of being in one orbit. -/
theorem orbitsPartitionTheCodes : Obligations.OrbitsPartitionTheCodes := by
  intro k j l
  refine ⟨sameOrbit_iff.mpr ⟨.abc, permuteCode_abc k⟩, ?symm, ?trans, sameOrbit_iff.trans mem_orbit_iff.symm, sameOrbit_iff⟩
  all_goals simp only [sameOrbit_iff]
  case symm =>
    rintro ⟨p, rfl⟩
    exact ⟨inversePerm p, permuteCode_inverse k p⟩
  case trans =>
    rintro ⟨p, rfl⟩ ⟨q, rfl⟩
    exact ⟨composePerm p q, (permuteCode_permuteCode k p q).symm⟩

/-! ## Sizes of orbits -/

/-- Erasing duplicates leaves none. -/
theorem nodup_eraseDups {α : Type} [BEq α] [LawfulBEq α] : ∀ l : List α, l.eraseDups.Nodup
  | [] => List.nodup_nil
  | a :: l => by
    rw [List.eraseDups_cons, List.nodup_cons]
    exact ⟨by simp, nodup_eraseDups _⟩
  termination_by l => l.length
  decreasing_by exact Nat.lt_succ_of_le (List.length_filter_le _ _)

/-- An orbit has as many codes as there are permutations in a list that reaches every member once. Two permutations of the list would
reach the same member only if the first and then the inverse of the second left the code as it is (R114). -/
theorem length_orbit_eq {k : Code} {ps : List Perm} (hnodup : ps.Nodup)
    (hfree : ∀ p ∈ ps, ∀ q ∈ ps, permuteCode k (composePerm p (inversePerm q)) = k → p = q)
    (hall : ∀ p, ∃ q ∈ ps, permuteCode k q = permuteCode k p) : (orbit k).length = ps.length := by
  have himages : (ps.map (permuteCode k)).Nodup := by
    refine hnodup.map_on fun p hp q hq h => hfree p hp q hq ?_
    rw [← permuteCode_permuteCode, h, permuteCode_inverse]
  have hmem : ∀ j, j ∈ orbit k ↔ j ∈ ps.map (permuteCode k) := by
    intro j
    rw [mem_orbit_iff, List.mem_map]
    constructor
    · rintro ⟨p, rfl⟩
      exact hall p
    · rintro ⟨q, -, hq⟩
      exact ⟨q, hq⟩
  have hperm : (orbit k).Perm (ps.map (permuteCode k)) :=
    (List.perm_ext_iff_of_nodup (nodup_eraseDups _) himages).mpr hmem
  rw [hperm.length_eq, List.length_map]

/-- A code is symmetric in all inputs: its bits agree among the inputs with one 1, and among those with two (R114). -/
def SymmetricCode (k : Code) : Prop :=
  k.getLsbD 1 = k.getLsbD 2 ∧ k.getLsbD 2 = k.getLsbD 4 ∧ k.getLsbD 3 = k.getLsbD 5 ∧ k.getLsbD 5 = k.getLsbD 6

/-- Every remap leaves a symmetric code as it is: a bit and its source belong to inputs with the same number of ones (R114). -/
theorem permuteCode_of_symmetric {k : Code} (h : SymmetricCode k) (p : Perm) : permuteCode k p = k := by
  obtain ⟨h12, h24, h35, h56⟩ := h
  obtain ⟨-, hone, htwo⟩ := map_sourceBit_perm p
  have hconst1 : ∀ d ∈ [1, 2, 4], k.getLsbD d = k.getLsbD 1 := by
    simp [-BitVec.getLsbD_eq_getElem, h12, h24]
  have hconst2 : ∀ d ∈ [3, 5, 6], k.getLsbD d = k.getLsbD 3 := by
    simp [-BitVec.getLsbD_eq_getElem, h35, h56]
  refine permuteCode_eq_of_bits fun d hd => ?_
  have hd : d = 0 ∨ d ∈ [1, 2, 4] ∨ d ∈ [3, 5, 6] ∨ d = 7 := by
    revert d
    decide
  obtain rfl | hd | hd | rfl := hd
  · rw [sourceBit_zero]
  · rw [hconst1 _ (hone.mem_iff.mp (List.mem_map_of_mem hd)), hconst1 d hd]
  · rw [hconst2 _ (htwo.mem_iff.mp (List.mem_map_of_mem hd)), hconst2 d hd]
  · rw [sourceBit_seven]

/-- A code that a three-cycle leaves as it is is symmetric: the cycle goes through the inputs with one 1, and through those with two
(R114). -/
theorem symmetric_of_permuteCode_cab {k : Code} (h : permuteCode k .cab = k) : SymmetricCode k := by
  have hbit : ∀ d, d < 8 → k.getLsbD (sourceBit .cab d) = k.getLsbD d := fun d hd => by
    rw [← getLsbD_permuteCode k .cab hd, h]
  exact ⟨(hbit 1 (by decide)).symm, (hbit 2 (by decide)).symm, hbit 5 (by decide), hbit 6 (by decide)⟩

/-- The same of the other three-cycle, which twice is the first (R109, R114). -/
theorem symmetric_of_permuteCode_bca {k : Code} (h : permuteCode k .bca = k) : SymmetricCode k := by
  refine symmetric_of_permuteCode_cab ?_
  calc permuteCode k .cab
      _ = permuteCode (permuteCode k .bca) .bca := (permuteCode_permuteCode k .bca .bca).symm
      _ = k := by rw [h, h]

/-- The identity and the two three-cycles; the other permutations exchange two operands. -/
def rotations : List Perm := [.abc, .cab, .bca]

/-- Of the rotations only the identity leaves a code as it is that is not symmetric (R114). -/
theorem eq_abc_of_rotation {k : Code} {p : Perm} (hk : ¬ SymmetricCode k) (hp : p ∈ rotations) (h : permuteCode k p = k) : p = .abc := by
  simp only [rotations, List.mem_cons, List.not_mem_nil, or_false] at hp
  obtain rfl | rfl | rfl := hp
  · rfl
  · exact absurd (symmetric_of_permuteCode_cab h) hk
  · exact absurd (symmetric_of_permuteCode_bca h) hk

/-- A rotation and then the inverse of a rotation is a rotation (R109). -/
theorem composePerm_inversePerm_mem_rotations {p q : Perm} (hp : p ∈ rotations) (hq : q ∈ rotations) :
    composePerm p (inversePerm q) ∈ rotations := by
  revert hp hq
  cases p <;> cases q <;> decide

/-- Two exchanges one after the other are a rotation (R109). -/
theorem composePerm_mem_rotations {p q : Perm} (hp : p ∉ rotations) (hq : q ∉ rotations) : composePerm p q ∈ rotations := by
  revert hp hq
  cases p <;> cases q <;> decide

/-- The orbit of a symmetric code is the code alone (R114). -/
theorem length_orbit_of_symmetric {k : Code} (hk : SymmetricCode k) : (orbit k).length = 1 :=
  length_orbit_eq (ps := [.abc]) (by decide) (by simp) fun p => ⟨.abc, by simp [permuteCode_of_symmetric hk]⟩

/-- Where an exchange of two operands leaves a code as it is, and not every permutation does, the rotations give the orbit (R114). -/
theorem length_orbit_of_exchange {k : Code} {p : Perm} (hk : ¬ SymmetricCode k) (hp : p ∉ rotations) (h : permuteCode k p = k) :
    (orbit k).length = 3 := by
  refine length_orbit_eq (ps := rotations) (by decide) ?free fun q => ?all
  case free =>
    intro q hq q' hq' hfix
    exact eq_of_composePerm_inversePerm (eq_abc_of_rotation hk (composePerm_inversePerm_mem_rotations hq hq') hfix)
  case all =>
    by_cases hq : q ∈ rotations
    · exact ⟨q, hq, rfl⟩
    · exact ⟨composePerm p q, composePerm_mem_rotations hp hq, by rw [← permuteCode_permuteCode, h]⟩

/-- Where only the identity leaves a code as it is, the six permutations carry it to six codes (R114). -/
theorem length_orbit_of_free {k : Code} (h : ∀ p, permuteCode k p = k → p = .abc) : (orbit k).length = 6 :=
  length_orbit_eq (ps := allPerms) (by decide) (fun _ _ _ _ hfix => eq_of_composePerm_inversePerm (h _ hfix))
    fun p => ⟨p, mem_allPerms p, rfl⟩

/-- The three kinds of orbits (R114). -/
theorem length_orbit_cases (k : Code) :
    SymmetricCode k ∧ (orbit k).length = 1 ∨ ¬ SymmetricCode k ∧ ((orbit k).length = 3 ∨ (orbit k).length = 6) := by
  by_cases hk : SymmetricCode k
  · exact .inl ⟨hk, length_orbit_of_symmetric hk⟩
  · refine .inr ⟨hk, ?_⟩
    by_cases hex : ∃ p, p ∉ rotations ∧ permuteCode k p = k
    · obtain ⟨p, hp, h⟩ := hex
      exact .inl (length_orbit_of_exchange hk hp h)
    · refine .inr (length_orbit_of_free fun p h => eq_abc_of_rotation hk ?_ h)
      by_contra hp
      exact hex ⟨p, hp, h⟩

/-- An orbit has 1, 3 or 6 codes (R114). -/
theorem length_orbit_eq_one_or_three_or_six (k : Code) : (orbit k).length = 1 ∨ (orbit k).length = 3 ∨ (orbit k).length = 6 := by
  obtain ⟨-, h⟩ | ⟨-, h⟩ := length_orbit_cases k
  · exact .inl h
  · exact .inr h

/-- The codes that are alone in their orbit are the symmetric ones (R114). -/
theorem length_orbit_eq_one_iff {k : Code} : (orbit k).length = 1 ↔ SymmetricCode k := by
  obtain ⟨hk, h⟩ | ⟨hk, h | h⟩ := length_orbit_cases k <;> simp [hk, h]

/-- Settles O42: the size of an orbit follows from the permutations that leave the code as it is; the numbers of codes and the orbit
minima are computed over the 256 codes. -/
theorem orbitSizesAndMinima : Obligations.OrbitSizesAndMinima := by
  refine ⟨fun k => ⟨length_orbit_eq_one_or_three_or_six k, length_orbit_eq_one_iff⟩, ?_⟩
  decide +kernel

/-! ## The rows of the entries -/

/-- Settles O16: the row of an entry runs the formula of its representative on the operands that the multiplexer gives, whose order is
the permutation's name; without a formula the entry is refused. -/
theorem entryRowsSetTheMultiplexer : Obligations.EntryRowsSetTheMultiplexer := by
  intro w selw s rep
  refine ⟨fun f hf => ?_, fun hnone p => (exec_entry _ _).trans (evaluateEntry_none hnone)⟩
  have hrow : ∀ p, exec (instrOfEntry ⟨rep, p⟩) ⟨w, selw, s⟩ =
      .next ⟨w, selw, s.deliver (eval f (permuteOperands s.operands p))⟩ :=
    fun p => (exec_entry ⟨rep, p⟩ _).trans (evaluateEntry_ok hf)
  exact ⟨hrow .abc, hrow .bac, hrow .acb, hrow .cba, hrow .cab, hrow .bca⟩

end Sys2Proof.Proofs
end

section
/-! The builder's search and its loop, when it fails, and the statements of 43_reduction_table.md. -/

namespace Sys2Proof.Proofs

open Sys2Proof.Machine

/-! ## The entry of one code -/

/-- A member of the Primary set gets its identity (R122). -/
theorem findEntry_of_mem {primary : List Code} {k : Code} (h : k ∈ primary) : findEntry primary k = some ⟨k, .abc⟩ := by
  simp [findEntry, h]

/-- A code outside the Primary set has an entry exactly when the search order has a first permutation into the set, which the entry
then names (R122). -/
theorem findEntry_eq_some_iff_of_not_mem {primary : List Code} {k : Code} {e : Entry} (h : k ∉ primary) :
    findEntry primary k = some e ↔ ∃ before p after, searchOrder = before ++ p :: after ∧ permuteCode k p ∈ primary ∧
      (∀ q ∈ before, permuteCode k q ∉ primary) ∧ e = ⟨permuteCode k p, p⟩ := by
  simp only [findEntry, List.contains_eq_mem, decide_eq_true_eq, if_neg h, Option.map_eq_some_iff,
    List.find?_eq_some_iff_append, Bool.not_eq_true', decide_eq_false_iff_not]
  constructor
  · rintro ⟨p, ⟨hp, before, after, horder, hbefore⟩, rfl⟩
    exact ⟨before, p, after, horder, hp, hbefore, rfl⟩
  · rintro ⟨before, p, after, horder, hp, hbefore, rfl⟩
    exact ⟨p, ⟨hp, before, after, horder, hbefore⟩, rfl⟩

/-- A code has no entry exactly when neither it nor a code the search reaches is in the Primary set (R122). -/
theorem findEntry_eq_none_iff_search {primary : List Code} {k : Code} :
    findEntry primary k = none ↔ k ∉ primary ∧ ∀ p ∈ searchOrder, permuteCode k p ∉ primary := by
  by_cases hk : k ∈ primary <;> simp [findEntry, hk]

/-- The search order leaves out the identity only (R90, R122). -/
theorem eq_abc_or_mem_searchOrder (p : Perm) : p = .abc ∨ p ∈ searchOrder := by
  cases p <;> decide

/-- A code has no entry exactly when no permutation carries it into the Primary set (R122, R124). -/
theorem findEntry_eq_none_iff {primary : List Code} {k : Code} :
    findEntry primary k = none ↔ ∀ p, permuteCode k p ∉ primary := by
  rw [findEntry_eq_none_iff_search]
  constructor
  · rintro ⟨hk, hsearch⟩ p
    obtain rfl | hp := eq_abc_or_mem_searchOrder p
    · rwa [permuteCode_abc]
    · exact hsearch p hp
  · intro h
    exact ⟨permuteCode_abc k ▸ h .abc, fun p _ => h p⟩

/-- A further member of the Primary set changes nothing for the codes of other orbits (R130). -/
theorem findEntry_cons_of_not_mem_orbit {primary : List Code} {c k : Code} (h : k ∉ orbit c) :
    findEntry (c :: primary) k = findEntry primary k := by
  have hne : ∀ p, permuteCode k p ≠ c := fun p hp =>
    h (mem_orbit_iff.mpr ⟨inversePerm p, by rw [← hp, permuteCode_inverse]⟩)
  have hk : k ≠ c := permuteCode_abc k ▸ hne .abc
  simp [findEntry, hne, hk]

/-! ## The entries of a built table -/

/-- The place of a code in a built list holds the entry that the builder finds for the code (R121). -/
theorem getElem?_of_buildReductionTable {primary : List Code} {es : List Entry} (h : buildReductionTable primary = .ok es)
    (k : Code) : es[k.toNat]? = findEntry primary k := by
  obtain ⟨e, hfind, he⟩ := findEntry_of_buildReductionTable h k
  rw [hfind, he]

/-- Settles O43: each place holds the builder's entry, whose representative is a member of the set and the remapped code; the function
and the orbit are those of the remap. -/
theorem builtEntriesSatisfyTheInvariant : Obligations.BuiltEntriesSatisfyTheInvariant := by
  intro primary es h
  refine ⟨length_of_buildReductionTable h, fun k => ?_⟩
  obtain ⟨e, hfind, he⟩ := findEntry_of_buildReductionTable h k
  obtain ⟨hmem, hrep⟩ := findEntry_eq_some hfind
  exact ⟨e, he, hmem, eq_permuteCode_iff.mp hrep.symm, hrep.symm, sameOrbit_iff.mpr ⟨e.perm, hrep⟩⟩

/-- Settles O46: an identity entry has the remap by the identity, the code itself, as its member of the set; conversely each member, so
each representative, gets its identity. -/
theorem builtTableProperties : Obligations.BuiltTableProperties := by
  intro primary es h k e he
  rw [getElem?_of_buildReductionTable h] at he
  obtain ⟨hmem, hrep⟩ := findEntry_eq_some he
  refine ⟨⟨?member, ?identity⟩, ?rep, ?fixed, instrWellFormed_instrOfEntry_iff.mpr hmem⟩
  case member =>
    rintro rfl
    exact hmem
  case identity =>
    intro hk
    exact Option.some.inj (he.symm.trans (findEntry_of_mem hk))
  case rep =>
    intro hperm
    rw [← hrep, hperm, permuteCode_abc]
  case fixed => rw [getElem?_of_buildReductionTable h, findEntry_of_mem hmem]

/-! ## When the build fails -/

/-- The loop of the builder stops at the first of its codes that has no entry (R122, R124). -/
theorem buildEntries_eq_error_iff {primary codes : List Code} {k : Code} :
    buildEntries primary codes = .error k ↔ codes.find? (fun j => (findEntry primary j).isNone) = some k := by
  induction codes with
  | nil => simp [buildEntries]
  | cons j rest ih =>
    unfold buildEntries
    split
    · rename_i hnone
      simp [hnone]
    · rename_i e he
      rw [List.find?_cons_of_neg (by simp [he]), ← ih]
      split <;> rename_i hrest <;> simp [hrest]

/-- The first of all codes with a property is the smallest. -/
theorem find?_allCodes_eq_some_iff {P : Code → Bool} {k : Code} :
    allCodes.find? P = some k ↔ P k = true ∧ ∀ j : Code, j.toNat < k.toNat → P j = false := by
  rw [allCodes, List.find?_map, Option.map_eq_some_iff]
  simp only [List.find?_range_eq_some, Function.comp_apply, List.mem_range, Bool.not_eq_true']
  constructor
  · rintro ⟨n, ⟨hP, hn, hbefore⟩, rfl⟩
    refine ⟨hP, fun j hj => ?_⟩
    rw [BitVec.toNat_ofNat, Nat.mod_eq_of_lt hn] at hj
    simpa using hbefore j.toNat hj
  · rintro ⟨hP, hbefore⟩
    refine ⟨k.toNat, ⟨by simpa using hP, k.isLt, fun n hn => hbefore _ ?_⟩, by simp⟩
    exact (Nat.mod_le n _).trans_lt hn

/-- The build fails on the smallest code that has no entry (R124). -/
theorem buildReductionTable_eq_error_iff {primary : List Code} {k : Code} : buildReductionTable primary = .error k ↔
    findEntry primary k = none ∧ ∀ j : Code, j.toNat < k.toNat → findEntry primary j ≠ none := by
  rw [buildReductionTable, buildEntries_eq_error_iff, find?_allCodes_eq_some_iff]
  simp [Option.isSome_iff_ne_none]

/-- The build fails exactly when some code has no entry (R124). -/
theorem exists_buildReductionTable_eq_error_iff {primary : List Code} :
    (∃ k, buildReductionTable primary = .error k) ↔ ∃ k, findEntry primary k = none := by
  constructor
  · rintro ⟨k, h⟩
    exact ⟨k, (buildReductionTable_eq_error_iff.mp h).1⟩
  · rintro ⟨k, hnone⟩
    cases hbuild : buildReductionTable primary with
    | error j => exact ⟨j, rfl⟩
    | ok es =>
      obtain ⟨e, he, -⟩ := findEntry_of_buildReductionTable hbuild k
      exact absurd (hnone.symm.trans he) nofun

/-- Settles O44: the entries are those of the search over the fixed order, and the build fails where the search does. -/
theorem builderTakesTheFirstMatch : Obligations.BuilderTakesTheFirstMatch := by
  intro primary
  refine ⟨fun es h k => ⟨fun hk => ?member, fun hk => ?search⟩, ?fails, ?only⟩
  case member => rw [getElem?_of_buildReductionTable h, findEntry_of_mem hk]
  case search =>
    obtain ⟨e, hfind, he⟩ := findEntry_of_buildReductionTable h k
    obtain ⟨before, p, after, horder, hp, hbefore, rfl⟩ := (findEntry_eq_some_iff_of_not_mem hk).mp hfind
    exact ⟨before, p, after, horder, hp, hbefore, he⟩
  case fails =>
    rintro ⟨k, hk⟩
    exact exists_buildReductionTable_eq_error_iff.mpr ⟨k, findEntry_eq_none_iff_search.mpr hk⟩
  case only =>
    intro k h
    exact findEntry_eq_none_iff_search.mp (buildReductionTable_eq_error_iff.mp h).1

/-- Instantiating a valid configuration is the fault IncompleteCoverage exactly when the build fails, and names the build's code
(R124, R163). -/
theorem instantiate_eq_incompleteCoverage_iff {w selw : Nat} {cfg : Config} {k : Code} (hw : 1 ≤ w) (hsel : 8 ≤ selw)
    (hcfg : Config.Valid cfg) :
    instantiate w selw cfg = .fault (.incompleteCoverage k) ↔ buildReductionTable cfg.primary = .error k := by
  obtain ⟨hrise, hright⟩ := hcfg
  cases hbuild : buildReductionTable cfg.primary <;>
    simp [instantiate, Nat.ne_of_gt hw, Nat.not_lt.mpr hsel, hrise, hright, hbuild]

/-- Settles O45: to have no entry is to have no member in the orbit, and the build fails on the smallest such code; the two examples
are computed. -/
theorem buildFailsExactlyOnAnUncoveredOrbit : Obligations.BuildFailsExactlyOnAnUncoveredOrbit := by
  refine ⟨fun primary => ?orbit, fun primary k => ?smallest,
    fun w selw cfg k hw hsel hcfg => instantiate_eq_incompleteCoverage_iff hw hsel hcfg, rfl, rfl⟩
  case orbit => simp [exists_buildReductionTable_eq_error_iff, findEntry_eq_none_iff, mem_orbit_iff]
  case smallest => simp [buildReductionTable_eq_error_iff, findEntry_eq_none_iff]

/-! ## The tables the spec gives -/

/-- Settles O47: the build of the default set gives the entries of the ROM's words, whose table is the memory of the reset state. -/
theorem defaultTableIsTheRomImage : Obligations.DefaultTableIsTheRomImage := Tests.default_table

/-- A set of the largest codes of the orbits holds a code exactly when the code is the largest of its own orbit (R113, R130). -/
theorem contains_orbit_maxima {largest : List Code} (h : ∀ k, k ∈ largest ↔ ∀ j, sameOrbit k j = true → j.toNat ≤ k.toNat)
    (k : Code) : largest.contains k = (orbit k).all fun j => decide (j.toNat ≤ k.toNat) := by
  rw [Bool.eq_iff_iff]
  simp [h, mem_orbit_iff, sameOrbit_iff]

/-- The orbit of 0x0C (R113). -/
theorem orbit_0C : orbit 0x0C#8 = [0x0C#8, 0x30#8, 0x0A#8, 0x44#8, 0x22#8, 0x50#8] := by decide +kernel

/-- Beside the default set 0x0C changes the entries of three codes only: another orbit does not see it, and in its own orbit the other
three codes still meet 0x0A first (R130). -/
theorem findEntry_cons_0C {k : Code} (hself : k ≠ 0x0C#8) (hbac : k ≠ 0x30#8) (hcba : k ≠ 0x44#8) :
    findEntry (0x0C#8 :: primaryDefault) k = findEntry primaryDefault k := by
  by_cases hk : k ∈ orbit 0x0C#8
  · simp only [orbit_0C, List.mem_cons, hself, hbac, hcba, List.not_mem_nil, or_false, false_or] at hk
    obtain rfl | rfl | rfl := hk <;> rfl
  · exact findEntry_cons_of_not_mem_orbit hk

/-- Settles O48: among all codes each is a member; 0x0C changes its own orbit at most; and with the largest code of each orbit a search
asks only which of the code's remaps are largest, which is computed. -/
theorem tablesOfOtherPrimarySets : Obligations.TablesOfOtherPrimarySets := by
  refine ⟨fun k => findEntry_of_mem (Tests.mem_allCodes k), ⟨rfl, rfl, rfl, fun k => findEntry_cons_0C⟩, fun largest h => ?_⟩
  simp only [findEntry, contains_orbit_maxima h]
  decide +kernel

end Sys2Proof.Proofs
end

section
/-! The laws of the reference function and its closed form, evaluations on valid blocks at the rows, the step and the ports, and the
statements of 44_dispatcher.md. -/

namespace Sys2Proof.Proofs

open Sys2Proof.Machine Sys2Proof.Laws

/-! ## The closed form of the reference function -/

section ClosedForm

variable {w i : Nat}

/-- A literal has a one in the lanes in which the vector has the wanted bit (R136). -/
theorem getLsbD_literal (bit : Bool) (v : BitVec w) (hi : i < w) :
    (minterm.literal bit v).getLsbD i = decide (v.getLsbD i = bit) := by
  cases bit with
  | true => simp [minterm.literal]
  | false => rw [minterm.literal, if_neg Bool.false_ne_true, getLsbD_vNot, decide_eq_true hi, Bool.true_and, Bool.decide_eq_false]

/-- An index and the bits of a lane belong together in either direction (R50). -/
theorem eq_indexBits_iff {x : Triple Bool} {j : Nat} (hj : j < 8) : x = indexBits j ↔ idx x = j := by
  constructor
  · rintro rfl
    exact idx_indexBits hj
  · rintro rfl
    exact (indexBits_idx x).symm

/-- `m_j` has a one in exactly the lanes whose input index is `j` (R136). -/
theorem getLsbD_minterm {j : Nat} (x : Triple (BitVec w)) (hi : i < w) (hj : j < 8) :
    (minterm x j).getLsbD i = decide (idx (lane x i) = j) := by
  have hbits : idx (lane x i) = j ↔
      (x.a.getLsbD i = j.testBit 2 ∧ x.b.getLsbD i = j.testBit 1) ∧ x.c.getLsbD i = j.testBit 0 := by
    rw [← eq_indexBits_iff hj, lane, indexBits, Triple.mk.injEq, and_assoc]
  simp only [minterm, getLsbD_vAnd, getLsbD_literal _ _ hi, hbits, Bool.decide_and]

/-- An `OR` over a list has a one in the lanes in which a member, or the vector it begins with, has one (R67). -/
theorem getLsbD_foldr_vOr {α : Type} (f : α → BitVec w) (z : BitVec w) (l : List α) :
    (l.foldr (fun j acc => vOr (f j) acc) z).getLsbD i = (l.any (fun j => (f j).getLsbD i) || z.getLsbD i) := by
  induction l with
  | nil => rfl
  | cons j rest ih => rw [List.foldr_cons, getLsbD_vOr, ih, List.any_cons, Bool.or_assoc]

/-- In every lane the closed form is the function of the code: of the `m_j` only that of the lane's index has a one there, and it is
among them when the code has that bit (R136). -/
theorem getLsbD_refByMinterms (k : Code) (x : Triple (BitVec w)) (hi : i < w) :
    (refByMinterms k x).getLsbD i = codeFn k (lane x i) := by
  have hzero : (vNot (vOnes w)).getLsbD i = false := by simp
  rw [refByMinterms, getLsbD_foldr_vOr, hzero, Bool.or_false, Bool.eq_iff_iff, List.any_eq_true, codeFn]
  constructor
  · rintro ⟨j, hj, hone⟩
    obtain ⟨hlt, hbit⟩ := List.mem_filter.mp hj
    rw [getLsbD_minterm x hi (List.mem_range.mp hlt), decide_eq_true_iff] at hone
    rw [hone]
    exact hbit
  · intro hbit
    refine ⟨idx (lane x i), List.mem_filter.mpr ⟨List.mem_range.mpr (idx_lt _), hbit⟩, ?_⟩
    rw [getLsbD_minterm x hi (idx_lt _), decide_eq_true rfl]

end ClosedForm

/-- Settles O33: the lanes are those of `Ref`, of the `m_j` and of their `OR`, and a vector with the lanes of `Ref` is `Ref`. -/
theorem referenceIsLanewiseAndHasAClosedForm : Obligations.ReferenceIsLanewiseAndHasAClosedForm := by
  intro w k x
  refine ⟨fun i hi => getLsbD_ref k x hi, fun i j hi hj => getLsbD_minterm x hi hj, ?_⟩
  exact (eq_ref_of_lanes fun i hi => getLsbD_refByMinterms k x hi).symm

/-! ## Laws of the reference function -/

section ReferenceLaws

variable {w : Nat}

/-- The complement of a code has the complementary function (R142). -/
theorem codeFn_complement (k : Code) (x : Triple Bool) : codeFn (k ^^^ 0xFF#8) x = !codeFn k x := by
  have hones : 0xFF#8 = BitVec.allOnes 8 := rfl
  rw [codeFn, hones, BitVec.xor_allOnes, BitVec.getLsbD_not, decide_eq_true (idx_lt x), Bool.true_and, codeFn]

/-- Exchanging the nibbles of a code takes each bit to the place whose index differs in bit 2 (R142). -/
theorem getLsbD_exchangeNibbles (k : Code) {d : Nat} (hd : d < 8) :
    ((k <<< 4) ||| (k >>> 4)).getLsbD d = k.getLsbD (d ^^^ 4) := by
  interval_cases d <;> simp

/-- Bit 2 of an index is the first input (R11, R50). -/
theorem idx_not_a (x y z : Bool) : idx ⟨!x, y, z⟩ = idx ⟨x, y, z⟩ ^^^ 4 := by
  cases x <;> cases y <;> cases z <;> rfl

/-- A code with exchanged nibbles has the function of the code on the complemented first input (R142). -/
theorem codeFn_exchangeNibbles (k : Code) (x y z : Bool) :
    codeFn ((k <<< 4) ||| (k >>> 4)) ⟨x, y, z⟩ = codeFn k ⟨!x, y, z⟩ := by
  rw [codeFn, getLsbD_exchangeNibbles k (idx_lt _), ← idx_not_a, codeFn]

/-- The complement of a code gives the complement of the result (R142). -/
theorem ref_complement (k : Code) (x : Triple (BitVec w)) : ref (k ^^^ 0xFF#8) x = ~~~(ref k x) :=
  .symm <| eq_ref_of_lanes fun i hi => by
    rw [BitVec.getLsbD_not, decide_eq_true hi, Bool.true_and, getLsbD_ref k x hi, codeFn_complement]

/-- Complementing the first operand is exchanging the nibbles of the code (R142). -/
theorem ref_not_a (k : Code) (x : Triple (BitVec w)) : ref k ⟨~~~x.a, x.b, x.c⟩ = ref ((k <<< 4) ||| (k >>> 4)) x :=
  eq_ref_of_lanes fun i hi => by
    have hlane : lane ⟨~~~x.a, x.b, x.c⟩ i = ⟨!x.a.getLsbD i, x.b.getLsbD i, x.c.getLsbD i⟩ := by
      rw [lane, BitVec.getLsbD_not, decide_eq_true hi, Bool.true_and]
    rw [getLsbD_ref _ _ hi, hlane, ← codeFn_exchangeNibbles, lane]

/-- With one vector in all three places only the indices 0 and 7 occur, so that bits 0 and 7 of the code decide (R142). -/
theorem ref_same (k : Code) (v : BitVec w) : ref k ⟨v, v, v⟩ =
    if k.getLsbD 7 then (if k.getLsbD 0 then BitVec.allOnes w else v) else if k.getLsbD 0 then ~~~v else 0#w := by
  have hlane : ∀ i, codeFn k (lane ⟨v, v, v⟩ i) = if v.getLsbD i then k.getLsbD 7 else k.getLsbD 0 := by
    intro i
    simp only [codeFn, lane]
    cases v.getLsbD i <;> rfl
  refine .symm <| eq_ref_of_lanes fun i hi => ?_
  rw [hlane]
  cases k.getLsbD 7 <;> cases k.getLsbD 0 <;> simp [hi]

/-- A code that is the code of a formula gives the value of the formula (R53, R79). -/
theorem ref_eq_eval {k : Code} {f : Formula} (h : tt f = k) (x : Triple (BitVec w)) : ref k x = eval f x := by
  rw [eval_eq_ref_tt, h]

/-- Code 0x00 gives all zero: it is the code of the complement of `ONES` (R53). -/
theorem ref_zero (x : Triple (BitVec w)) : ref 0x00#8 x = 0#w :=
  (ref_eq_eval (f := .not .ones) rfl x).trans BitVec.not_allOnes

end ReferenceLaws

/-! ## Evaluations of a valid block -/

section ValidBlock

variable {w selw : Nat} {s : Block w selw}

/-- On a valid block a code delivers its reference function (R140). -/
theorem evaluateCode_of_valid (hs : s.Valid) (k : Code) :
    evaluateCode k ⟨w, selw, s⟩ = .next ⟨w, selw, s.deliver (ref k s.operands)⟩ := by
  obtain ⟨-, -, hcfg, hrt⟩ := hs
  exact evaluateCode_ok (evaluate_eq_ref hcfg hrt _ _)

/-- A step of a valid block on a selector that is a code delivers the reference function of that code (R135, R140). -/
theorem step_command_of_valid (hs : s.Valid) (hcmd : s.stimulus = .command) (hsel : s.sel.toNat ≤ 255) :
    step ⟨w, selw, s⟩ = .next ⟨w, selw, s.deliver (ref (BitVec.ofNat 8 s.sel.toNat) s.operands)⟩ :=
  (step_command_of_le (s := ⟨w, selw, s⟩) hcmd hsel).trans (evaluateCode_of_valid hs _)

/-- The selector port of a valid block carries every code as it is (R48). -/
theorem toNat_selector_of_code (hs : s.Valid) (k : Code) : (BitVec.ofNat selw k.toNat).toNat = k.toNat := by
  obtain ⟨-, hselw, -, -⟩ := hs
  have hpow : 2 ^ 8 ≤ 2 ^ selw := Nat.pow_le_pow_right (by decide) hselw
  exact (BitVec.toNat_ofNat _ _).trans (Nat.mod_eq_of_lt (Nat.lt_of_lt_of_le k.isLt hpow))

/-- A selector above 255 needs a port of more than 8 bits (R137). -/
theorem lt_selw_of_gt {sel : BitVec selw} (hsel : 255 < sel.toNat) : 8 < selw := by
  by_contra hle
  have hpow : 2 ^ selw ≤ 2 ^ 8 := Nat.pow_le_pow_right (by decide) (Nat.not_lt.mp hle)
  have hlt : sel.toNat < 2 ^ selw := sel.isLt
  omega

/-- Validity does not ask for a setting of the native bypass (R8, R147). -/
theorem valid_nativeLut (hs : s.Valid) (native : Bool) :
    Block.Valid { s with cfg := { s.cfg with nativeLut := native } } := hs

end ValidBlock

/-! ## The statements about the step -/

/-- Settles O7: a step fetches by decoding what is presented. -/
theorem stepRunsTheDecodedInstruction : Obligations.StepRunsTheDecodedInstruction :=
  fun _ _ h => step_of_decode_ok h

/-- Settles O9: the range check stands before the evaluation, no other part of a step faults, and 8 bits hold no selector above 255. -/
theorem selectorAbove255FaultsAndNothingElse : Obligations.SelectorAbove255FaultsAndNothingElse := by
  intro s
  refine ⟨step_command_of_gt, fun f h => ?_⟩
  obtain ⟨hcmd, hgt, hf⟩ := step_fault h
  exact ⟨hcmd, hgt, lt_selw_of_gt hgt, hf⟩

/-- Settles O14: the step on a selector that is a code is the evaluation of that code. -/
theorem stepEvaluatesTheSelector : Obligations.StepEvaluatesTheSelector :=
  fun _ _ _ hs hcmd hsel => step_command_of_valid hs hcmd hsel

/-- Settles O11: on either side of 255 the step of a valid block is known, a delivered result or the selector's fault. -/
theorem evaluationsOfAnInstanceAreSafe : Obligations.EvaluationsOfAnInstanceAreSafe := by
  intro s hs hcmd
  by_cases hsel : s.block.sel.toNat ≤ 255
  · rw [step_command_of_valid hs hcmd hsel]
    trivial
  · rw [step_command_of_gt hcmd (Nat.not_le.mp hsel)]
    trivial

/-- Settles O12: presenting a code keeps the block valid and puts that code on the port, so that the ports and the step both show
its reference function. -/
theorem evaluationIsTheReference : Obligations.EvaluationIsTheReference := by
  intro w selw s hs k x
  have hnat : (BitVec.ofNat selw k.toNat).toNat = k.toNat := toNat_selector_of_code hs k
  have hle : (BitVec.ofNat selw k.toNat).toNat ≤ 255 := hnat.trans_le (Nat.le_of_lt_succ k.isLt)
  have hcode : BitVec.ofNat 8 (BitVec.ofNat selw k.toNat).toNat = k := by rw [hnat, BitVec.ofNat_toNat, BitVec.setWidth_eq]
  have hports := outputs_of_le hs hle x
  have hstep := step_command_of_valid (s := s.present (BitVec.ofNat selw k.toNat) x) hs rfl hle
  rw [present_sel, present_operands, hcode] at hstep
  rw [hcode] at hports
  exact ⟨hports, _, hstep, deliver_r _ _, deliver_err _ _⟩

/-! ## The statements about the rows -/

/-- Settles O13: the row of a code is the evaluation of that code, which delivers its reference function. -/
theorem everyCodeRowCompletesWithTheReference : Obligations.EveryCodeRowCompletesWithTheReference :=
  fun _ _ _ hs _ _ hi => exec_cmd_of_valid hs hi

/-- Settles O15: a row of a code that completes has delivered a result, which writes the two outputs and no other field. -/
theorem codeRowsChangeOnlyTheOutputs : Obligations.CodeRowsChangeOnlyTheOutputs := by
  intro w selw s t i k hi h
  rw [exec_cmd hi] at h
  obtain ⟨r, -, ht⟩ := evaluateCode_next h
  cases ht
  have htable : (s.deliver r).rt = s.rt := deliver_rt s r
  exact ⟨deliver_cfg s r, htable, fun index => by rw [htable], deliver_stimulus s r, deliver_sel s r, deliver_operands s r,
    deliver_err s r⟩

/-- Settles O20: the table holds the builder's entry for the code, whose representative has a formula; the entry's row runs that formula
on the reordered operands, which is what the formula's row does where they stand on the ports. -/
theorem entryThenFormulaIsTheEvaluation : Obligations.EntryThenFormulaIsTheEvaluation := by
  intro w selw s hs k
  obtain ⟨-, -, hcfg, hrt⟩ := hs
  obtain ⟨e, he, hread⟩ := readEntry_of_publishedTable hrt k
  obtain ⟨f, hf⟩ := exists_formula?_of_mem_primary (findEntry_eq_some he).1
  have hvalue : eval f (permuteOperands s.operands e.perm) = ref k s.operands := eval_entry_eq_ref hcfg he hf s.operands
  have hentry := (exec_entry e ⟨w, selw, s⟩).trans (evaluateEntry_ok hf)
  have hformula := exec_instrOfFormula_eq_deliver { s with operands := permuteOperands s.operands e.perm } f
  rw [hvalue] at hentry hformula
  exact ⟨e, f, hread, hf, hentry, hformula⟩

/-- Settles O21: the five codes are those of formulas without a binary node, whose values are the constants and the operands. -/
theorem knownFixedPoints : Obligations.KnownFixedPoints := by
  intro w selw s hs
  have hrow {i : Instr} {k : Nat} {r : BitVec w} (hi : encode i = .cmd k) (hr : ref (BitVec.ofNat 8 k) s.operands = r) :
      exec i ⟨w, selw, s⟩ = .next ⟨w, selw, s.deliver r⟩ := hr ▸ exec_cmd_of_valid hs hi
  exact ⟨hrow (k := 0x00) rfl (ref_zero _), hrow (k := 0xFF) rfl (ref_eq_eval (f := .ones) rfl _),
    hrow (k := 0xF0) rfl (ref_eq_eval (f := .a) rfl _), hrow (k := 0xCC) rfl (ref_eq_eval (f := .b) rfl _),
    hrow (k := 0xAA) rfl (ref_eq_eval (f := .c) rfl _)⟩

/-! ## The statements about `Evaluate` and the ports -/

/-- Settles O22: every evaluation of a valid block is the reference function, for which the four laws hold. -/
theorem evaluationCornerCases : Obligations.EvaluationCornerCases := by
  intro w selw s hs k x v p
  obtain ⟨-, -, hcfg, hrt⟩ := hs
  simp only [evaluate_eq_ref hcfg hrt]
  exact ⟨congrArg Except.ok (ref_same k v), ⟨ref k x, rfl, congrArg Except.ok (ref_complement k x)⟩,
    congrArg Except.ok (ref_not_a k x), congrArg Except.ok (ref_permuteCode k p x).symm⟩

/-- Settles O23: a block stays valid when the native bypass is switched, and both settings give the reference function. -/
theorem nativeBypassAgreesWithTheReduction : Obligations.NativeBypassAgreesWithTheReduction := by
  intro w selw s hs k x
  have hvalue (native : Bool) : evaluate { s.cfg with nativeLut := native } s.rt k x = .ok (ref k x) := by
    obtain ⟨-, -, hcfg, hrt⟩ := valid_nativeLut hs native
    exact evaluate_eq_ref hcfg hrt k x
  rw [hvalue true, hvalue false]

/-- Settles O24: up to 255 the ports show the reference function, and above it `err`. -/
theorem everySelectorGivesReferenceOrErr : Obligations.EverySelectorGivesReferenceOrErr := by
  intro w selw s hs sel x
  by_cases hsel : sel.toNat ≤ 255
  · refine ⟨_, outputs_of_le hs hsel x, ?_⟩
    rw [if_pos hsel]
    exact ⟨rfl, rfl⟩
  · refine ⟨_, outputs_of_gt (Nat.not_le.mp hsel) x, ?_⟩
    rw [if_neg hsel]

end Sys2Proof.Proofs
end

section
/-! Publishing a built table, and the statement of 70_reset_and_hazards.md. -/

namespace Sys2Proof.Proofs

open Sys2Proof.Machine Sys2Proof.Laws

/-! ## Build, then publish -/

/-- A table that was built completely is published as the memory of its entries (R192). -/
theorem publishedTable_of_build {primary : List Code} {es : List Entry} (h : buildReductionTable primary = .ok es) :
    publishedTable primary = some (Memory.image (es.map entryWord)) := by
  simp only [publishedTable, h]

/-- The table of a Primary set that covers every code is built and published (R124, R192). -/
theorem exists_publishedTable_of_covered {primary : List Code} (hcover : ∀ k : Code, ∃ p, permuteCode k p ∈ primary) :
    ∃ rt, publishedTable primary = some rt := by
  cases hbuild : buildReductionTable primary with
  | ok es => exact ⟨_, publishedTable_of_build hbuild⟩
  | error k =>
    obtain ⟨hnone, -⟩ := buildReductionTable_eq_error_iff.mp hbuild
    obtain ⟨p, hp⟩ := hcover k
    exact absurd hp (findEntry_eq_none_iff.mp hnone p)

/-- What is instantiated is the initial block of its configuration and of the table published for it, and that block is valid
(R192). -/
theorem valid_of_instantiate_next {w selw : Nat} {cfg : Config} {s : State} (h : instantiate w selw cfg = .next s) :
    ∃ rt, s = ⟨w, selw, Block.initial cfg rt⟩ ∧ (Block.initial cfg rt : Block w selw).Valid := by
  obtain ⟨hw, hsel, hrise, hright, es, hbuild, rfl⟩ := instantiate_next h
  exact ⟨_, rfl, Nat.one_le_iff_ne_zero.mpr hw, hsel, ⟨hrise, hright⟩, publishedTable_of_build hbuild⟩

/-- Settles O50: the checks that `instantiate` has passed and the table it has published are what validity asks for; conversely a set
that covers every code has a table to publish. -/
theorem instantiateGivesValidInstances : Obligations.InstantiateGivesValidInstances := by
  intro w selw cfg
  refine ⟨fun s h => ?sound, fun hw hsel hcfg hcover => ?complete⟩
  case sound =>
    obtain ⟨rt, hs, hvalid⟩ := valid_of_instantiate_next h
    exact ⟨Block.initial cfg rt, hs, hvalid, rfl, rfl⟩
  case complete =>
    obtain ⟨rt, hrt⟩ := exists_publishedTable_of_covered hcover
    exact ⟨_, instantiate_of_publishedTable hw hsel hcfg hrt⟩

end Sys2Proof.Proofs
end
